-- ==== Sys2Proof/Word.lean ====
section
/-! DEFINITION. The two word types of Dgb CORE (00_scope.md R4): 8-bit data, 16-bit pairs, SP, PC and bus addresses. -/

namespace Sys2Proof

/-- An 8-bit value: a data register, an opcode, a byte on the bus (R4). -/
abbrev Byte := BitVec 8

/-- A 16-bit value: a register pair, SP, PC or a bus address (R4). -/
abbrev Word := BitVec 16

end Sys2Proof
end

