-- ==== Sys2Proof/Machine/Bits.lean ====
section
/-! DEFINITION. Bit-field, byte-order and sign-extension helpers (00_scope.md R5, R6; 20_memory.md R33). -/

namespace Sys2Proof

/-- Bits 15..8 of a 16-bit value (R5). -/
def hi8 (w : Word) : Byte := w.extractLsb' 8 8

/-- Bits 7..0 of a 16-bit value (R5). -/
def lo8 (w : Word) : Byte := w.extractLsb' 0 8

/-- "high:low byte pairs": `(hi << 8) | lo` (R5, R12). -/
def mk16 (hi lo : Byte) : Word := hi ++ lo

/-- `sext8` (R6): a displacement byte read as two's complement, -128 to 127. -/
def sext8 (v : Byte) : Int := if v.toNat < 0x80 then (v.toNat : Int) else (v.toNat : Int) - 256

/-- `(w + sext8(e)) mod 65536` (R110, R273): the exact integer sum, then narrowed. -/
def addDisp (w : Word) (e : Byte) : Word := BitVec.ofInt 16 ((w.toNat : Int) + sext8 e)

/-- `0xFF00 + n` (R38, R69): the high-page address of an 8-bit offset; it never wraps. -/
def highPage (n : Byte) : Word := mk16 0xFF#8 n

/-- `popcount(m)` (R5): the number of 1 bits of a byte. -/
def popcount (m : Byte) : Nat :=
  ((List.range 8).filter fun i => m.getLsbD i).length

end Sys2Proof
end

