-- ==== Sys2Proof/Machine/Template.lean ====
section
/-! DEFINITION. The Bit-Field Template: its text format, parser, match test and field extraction
(30_encoding.md R50 to R55). -/

namespace Sys2Proof.Machine

/-- A run of template bits under one letter (R51). -/
structure VariableField where
  name : Char
  mostSignificantBitIndex : Nat
  bitWidth : Nat
deriving DecidableEq, Repr

/-- A parsed template (R51). `fields` (the source's `variables`) is a mapping from letter to field: the parser keeps the letters distinct (R52). -/
structure Template where
  constMask : Byte
  constVal : Byte
  sourceText : String
  fields : List VariableField
deriving DecidableEq, Repr

/-- Why a template text is not accepted (R52, R53): `TemplateParseError` or `DuplicateOpcodeError`. -/
inductive ParseFailure where
  /-- length other than 8, or a character outside the alphabet (R53). -/
  | malformed
  /-- a letter that comes back after its field has closed (R52). -/
  | repeatedLetter
deriving DecidableEq, Repr

/-- The bits of a field, in place (R51): `((1 << bitWidth) - 1) << (mostSignificantBitIndex - bitWidth + 1)`. -/
def VariableField.mask (f : VariableField) : Byte :=
  BitVec.ofNat 8 ((2 ^ f.bitWidth - 1) * 2 ^ (f.mostSignificantBitIndex + 1 - f.bitWidth))

/-- `Extract(b)` (R55): `(byte & mask) >> (msb - width + 1)`, the right-justified unsigned value. -/
def VariableField.extract (f : VariableField) (b : Byte) : Nat :=
  (b &&& f.mask).toNat / 2 ^ (f.mostSignificantBitIndex + 1 - f.bitWidth)

/-- What the parser has read so far. `open` of R51 is the head of `fields` while `prev` is its letter. -/
structure ParseState where
  constMask : Nat
  constVal : Nat
  fields : List VariableField
  prev : Option Char

/-- A letter of the template alphabet (R50). -/
def isFieldLetter (ch : Char) : Bool := decide ('a' ≤ ch) && decide (ch ≤ 'z')

/-- One more bit for the field that was opened last (R51). -/
def widenHead : List VariableField → List VariableField
  | [] => []
  | f :: fs => { f with bitWidth := f.bitWidth + 1 } :: fs

/-- The loop of R51 over the characters, the first of which describes bit `cs.length - 1`. The first offending
character decides (R309, D2). -/
def parseChars : List Char → ParseState → Except ParseFailure ParseState
  | [], st => .ok st
  | ch :: cs, st =>
    let pos := cs.length
    if ch = '0' then
      parseChars cs { st with constMask := st.constMask + 2 ^ pos, prev := some ch }
    else if ch = '1' then
      parseChars cs
        { st with constMask := st.constMask + 2 ^ pos, constVal := st.constVal + 2 ^ pos, prev := some ch }
    else if isFieldLetter ch then
      if st.prev = some ch then
        parseChars cs { st with fields := widenHead st.fields }
      else if st.fields.any fun f => f.name = ch then
        .error .repeatedLetter
      else
        parseChars cs { st with fields := ⟨ch, pos, 1⟩ :: st.fields, prev := some ch }
    else .error .malformed

/-- `Parse(text)` (R51): the length is checked first (R53, D2). -/
def parseTemplate (text : String) : Except ParseFailure Template :=
  if text.toList.length ≠ 8 then .error .malformed
  else
    match parseChars text.toList ⟨0, 0, [], none⟩ with
    | .error e => .error e
    | .ok st => .ok ⟨BitVec.ofNat 8 st.constMask, BitVec.ofNat 8 st.constVal, text, st.fields.reverse⟩

/-- `isFullyConstant` iff `constMask == 0xFF` (R51). -/
def Template.isFullyConstant (t : Template) : Bool := t.constMask = 0xFF#8

/-- `Test(byte) = (byte & constMask) == constVal` (R54). -/
def Template.test (t : Template) (b : Byte) : Bool := b &&& t.constMask = t.constVal

/-- The value of the field named `ch` in byte `b` (R55); 0 where the template has no such field. -/
def Template.field (t : Template) (b : Byte) (ch : Char) : Nat :=
  match t.fields.find? fun f => f.name = ch with
  | some f => f.extract b
  | none => 0

/-- `SuperPattern(P, Q)` (R56): P's constant positions are strictly fewer than Q's, among them, and agree there. -/
def superPattern (p q : Template) : Bool :=
  (p.constMask &&& q.constMask = p.constMask) && (p.constMask ≠ q.constMask)
    && (q.constVal &&& p.constMask = p.constVal)

end Sys2Proof.Machine
end

