-- ==== Sys2Proof/Config.lean ====
section
/-! DEFINITION. The implementation parameters of 00_scope.md R4 that this hardware fixes. `BASE_TIMING` and the
register file at reset (`INIT_RF`) are open there; they are data in `Machine.State` (log 3, log 4). -/

namespace Sys2Proof.Config

/-- The prefix escape value (R4): the byte after it is decoded in table 1. -/
def prefixByte : Byte := 0xCB#8

/-- `EXTRA_JR` (R4, R327): extra cycles of a taken `JR cc,e8`. DESIGN CHOICE of the spec (D16), log 5. -/
def extraJr : Nat := 4

/-- `EXTRA_JP` (R4, R327): extra cycles of a taken `JP cc,a16`. DESIGN CHOICE of the spec (D16), log 5. -/
def extraJp : Nat := 4

/-- `EXTRA_CALL` (R4, R327): extra cycles of a taken `CALL cc,a16`. DESIGN CHOICE of the spec (D16), log 5. -/
def extraCall : Nat := 12

/-- `EXTRA_RET` (R4, R327): extra cycles of a taken `RET cc`. DESIGN CHOICE of the spec (D16), log 5. -/
def extraRet : Nat := 12

/-- What a byte of the bus content that nothing has listed reads as. DESIGN CHOICE, unsafe (log 2): the spec leaves
the content to the host (R320); its vectors use "a plain RAM, zero where nothing is listed" (95_test_vectors.md). -/
def unlistedByte : Byte := 0x00#8

end Sys2Proof.Config
end

