-- ==== Sys2Proof/Syntax.lean ====
section
/-! DEFINITION. The instructions of Dgb CORE as syntax: one constructor per template of the canonical tables
(30_encoding.md R76, R77), with the operand fields of R69 to R74. -/

namespace Sys2Proof

/-- The two instruction tables (R67, R134): 0 unprefixed, 1 after the prefix byte. A two-valued type (D24). -/
inductive TableIx where
  | t0
  | t1
deriving DecidableEq, Repr

/-- The `r8` operand index, by its eight values (R70): 0 B, 1 C, 2 D, 3 E, 4 H, 5 L, 6 the byte at HL, 7 A. -/
inductive R8 where
  | b
  | c
  | d
  | e
  | h
  | l
  | indHl
  | a
deriving DecidableEq, Repr

/-- The `r16` field of `LD rr,d16`, `INC rr`, `DEC rr`, `ADD HL,rr` (R71): 0 BC, 1 DE, 2 HL, 3 SP. -/
inductive R16 where
  | bc
  | de
  | hl
  | sp
deriving DecidableEq, Repr

/-- The `r16stk` field of `PUSH rr`, `POP rr` (R71): 0 BC, 1 DE, 2 HL, 3 AF. -/
inductive R16Stk where
  | bc
  | de
  | hl
  | af
deriving DecidableEq, Repr

/-- The condition field (R72): 0 not-zero, 1 zero, 2 not-carry, 3 carry. -/
inductive Cond where
  | nz
  | z
  | nc
  | c
deriving DecidableEq, Repr

/-- The instruction set. Constructors stand in the order of the opcode table: the 93 templates of table 0 (R76), then
the 22 of table 1 (R77). Immediates are operands: `v` data, `e` signed displacement byte, `n` high-page offset, `a`
address; `dst`, `src` are `r8` indexes, `p` a pair, `cc` a condition, `t` a restart number, `b` a bit number. -/
inductive Instr where
  /-- `NOP`, template `00000000` of table 0, rule R290. -/
  | nop
  /-- `LD rr,d16`, template `00pp0001` of table 0, rule R170. -/
  | ldRrD16 (p : R16) (v : Word)
  /-- `LD (BC),A`, template `00000010` of table 0, rule R147. -/
  | ldIndBcA
  /-- `INC rr`, template `00pp0011` of table 0, rule R221. -/
  | incRr (p : R16)
  /-- `INC r`, template `00ddd100` of table 0, rule R204. -/
  | incR (dst : R8)
  /-- `DEC r`, template `00ddd101` of table 0, rule R206. -/
  | decR (dst : R8)
  /-- `LD r,d8`, template `00ddd110` of table 0, rule R141. -/
  | ldRD8 (dst : R8) (v : Byte)
  /-- `RLCA`, template `00000111` of table 0, rule R230. -/
  | rlca
  /-- `LD (a16),SP`, template `00001000` of table 0, rule R171. -/
  | ldIndA16Sp (a : Word)
  /-- `ADD HL,rr`, template `00pp1001` of table 0, rule R220. -/
  | addHlRr (p : R16)
  /-- `LD A,(BC)`, template `00001010` of table 0, rule R145. -/
  | ldAIndBc
  /-- `DEC rr`, template `00pp1011` of table 0, rule R222. -/
  | decRr (p : R16)
  /-- `RRCA`, template `00001111` of table 0, rule R231. -/
  | rrca
  /-- `STOP`, template `00010000` of table 0, rule R291. -/
  | stop
  /-- `LD (DE),A`, template `00010010` of table 0, rule R148. -/
  | ldIndDeA
  /-- `RLA`, template `00010111` of table 0, rule R232. -/
  | rla
  /-- `JR e8`, template `00011000` of table 0, rule R273. -/
  | jrE8 (e : Byte)
  /-- `LD A,(DE)`, template `00011010` of table 0, rule R146. -/
  | ldAIndDe
  /-- `RRA`, template `00011111` of table 0, rule R233. -/
  | rra
  /-- `JR cc,e8`, template `001cc000` of table 0, rule R274. -/
  | jrCcE8 (cc : Cond) (e : Byte)
  /-- `LD (HL+),A`, template `00100010` of table 0, rule R151. -/
  | ldIndHlIncA
  /-- `DAA`, template `00100111` of table 0, rule R208. -/
  | daa
  /-- `LD A,(HL+)`, template `00101010` of table 0, rule R149. -/
  | ldAIndHlInc
  /-- `CPL`, template `00101111` of table 0, rule R209. -/
  | cpl
  /-- `LD (HL-),A`, template `00110010` of table 0, rule R152. -/
  | ldIndHlDecA
  /-- `INC (HL)`, template `00110100` of table 0, rule R205. -/
  | incIndHl
  /-- `DEC (HL)`, template `00110101` of table 0, rule R207. -/
  | decIndHl
  /-- `LD (HL),d8`, template `00110110` of table 0, rule R144. -/
  | ldIndHlD8 (v : Byte)
  /-- `SCF`, template `00110111` of table 0, rule R210. -/
  | scf
  /-- `LD A,(HL-)`, template `00111010` of table 0, rule R150. -/
  | ldAIndHlDec
  /-- `CCF`, template `00111111` of table 0, rule R211. -/
  | ccf
  /-- `LD r,r'`, template `01dddsss` of table 0, rule R140. -/
  | ldRR (dst : R8) (src : R8)
  /-- `LD r,(HL)`, template `01ddd110` of table 0, rule R142. -/
  | ldRIndHl (dst : R8)
  /-- `LD (HL),r`, template `01110sss` of table 0, rule R143. -/
  | ldIndHlR (src : R8)
  /-- `HALT`, template `01110110` of table 0, rule R292. -/
  | halt
  /-- `ADD A,r`, template `10000sss` of table 0, rule R180. -/
  | addAR (src : R8)
  /-- `ADD A,(HL)`, template `10000110` of table 0, rule R181. -/
  | addAIndHl
  /-- `ADC A,r`, template `10001sss` of table 0, rule R183. -/
  | adcAR (src : R8)
  /-- `ADC A,(HL)`, template `10001110` of table 0, rule R184. -/
  | adcAIndHl
  /-- `SUB r`, template `10010sss` of table 0, rule R186. -/
  | subR (src : R8)
  /-- `SUB (HL)`, template `10010110` of table 0, rule R187. -/
  | subIndHl
  /-- `SBC A,r`, template `10011sss` of table 0, rule R189. -/
  | sbcAR (src : R8)
  /-- `SBC A,(HL)`, template `10011110` of table 0, rule R190. -/
  | sbcAIndHl
  /-- `AND r`, template `10100sss` of table 0, rule R192. -/
  | andR (src : R8)
  /-- `AND (HL)`, template `10100110` of table 0, rule R193. -/
  | andIndHl
  /-- `XOR r`, template `10101sss` of table 0, rule R195. -/
  | xorR (src : R8)
  /-- `XOR (HL)`, template `10101110` of table 0, rule R196. -/
  | xorIndHl
  /-- `OR r`, template `10110sss` of table 0, rule R198. -/
  | orR (src : R8)
  /-- `OR (HL)`, template `10110110` of table 0, rule R199. -/
  | orIndHl
  /-- `CP r`, template `10111sss` of table 0, rule R201. -/
  | cpR (src : R8)
  /-- `CP (HL)`, template `10111110` of table 0, rule R202. -/
  | cpIndHl
  /-- `RET cc`, template `110cc000` of table 0, rule R278. -/
  | retCc (cc : Cond)
  /-- `POP rr`, template `11pp0001` of table 0, rule R175. -/
  | popRr (p : R16Stk)
  /-- `JP cc,a16`, template `110cc010` of table 0, rule R271. -/
  | jpCcA16 (cc : Cond) (a : Word)
  /-- `JP a16`, template `11000011` of table 0, rule R270. -/
  | jpA16 (a : Word)
  /-- `CALL cc,a16`, template `110cc100` of table 0, rule R276. -/
  | callCcA16 (cc : Cond) (a : Word)
  /-- `PUSH rr`, template `11pp0101` of table 0, rule R174. -/
  | pushRr (p : R16Stk)
  /-- `ADD A,d8`, template `11000110` of table 0, rule R182. -/
  | addAD8 (v : Byte)
  /-- `RST t`, template `11ttt111` of table 0, rule R280. -/
  | rstT (t : BitVec 3)
  /-- `RET`, template `11001001` of table 0, rule R277. -/
  | ret
  /-- `PREFIX CB`, template `11001011` of table 0, rule R295. -/
  | prefixCb
  /-- `CALL a16`, template `11001101` of table 0, rule R275. -/
  | callA16 (a : Word)
  /-- `ADC A,d8`, template `11001110` of table 0, rule R185. -/
  | adcAD8 (v : Byte)
  /-- `ILLEGAL_D3`, template `11010011` of table 0, rule R296. -/
  | illegalD3
  /-- `SUB d8`, template `11010110` of table 0, rule R188. -/
  | subD8 (v : Byte)
  /-- `RETI`, template `11011001` of table 0, rule R279. -/
  | reti
  /-- `ILLEGAL_DB`, template `11011011` of table 0, rule R296. -/
  | illegalDB
  /-- `ILLEGAL_DD`, template `11011101` of table 0, rule R296. -/
  | illegalDD
  /-- `SBC A,d8`, template `11011110` of table 0, rule R191. -/
  | sbcAD8 (v : Byte)
  /-- `LDH (a8),A`, template `11100000` of table 0, rule R156. -/
  | ldhIndA8A (n : Byte)
  /-- `LD (C),A`, template `11100010` of table 0, rule R158. -/
  | ldIndCA
  /-- `ILLEGAL_E3`, template `11100011` of table 0, rule R296. -/
  | illegalE3
  /-- `ILLEGAL_E4`, template `11100100` of table 0, rule R296. -/
  | illegalE4
  /-- `AND d8`, template `11100110` of table 0, rule R194. -/
  | andD8 (v : Byte)
  /-- `ADD SP,e8`, template `11101000` of table 0, rule R223. -/
  | addSpE8 (e : Byte)
  /-- `JP HL`, template `11101001` of table 0, rule R272. -/
  | jpHl
  /-- `LD (a16),A`, template `11101010` of table 0, rule R154. -/
  | ldIndA16A (a : Word)
  /-- `ILLEGAL_EB`, template `11101011` of table 0, rule R296. -/
  | illegalEB
  /-- `ILLEGAL_EC`, template `11101100` of table 0, rule R296. -/
  | illegalEC
  /-- `ILLEGAL_ED`, template `11101101` of table 0, rule R296. -/
  | illegalED
  /-- `XOR d8`, template `11101110` of table 0, rule R197. -/
  | xorD8 (v : Byte)
  /-- `LDH A,(a8)`, template `11110000` of table 0, rule R155. -/
  | ldhAIndA8 (n : Byte)
  /-- `LD A,(C)`, template `11110010` of table 0, rule R157. -/
  | ldAIndC
  /-- `DI`, template `11110011` of table 0, rule R293. -/
  | di
  /-- `ILLEGAL_F4`, template `11110100` of table 0, rule R296. -/
  | illegalF4
  /-- `OR d8`, template `11110110` of table 0, rule R200. -/
  | orD8 (v : Byte)
  /-- `LD HL,SP+e8`, template `11111000` of table 0, rule R173. -/
  | ldHlSpE8 (e : Byte)
  /-- `LD SP,HL`, template `11111001` of table 0, rule R172. -/
  | ldSpHl
  /-- `LD A,(a16)`, template `11111010` of table 0, rule R153. -/
  | ldAIndA16 (a : Word)
  /-- `EI`, template `11111011` of table 0, rule R294. -/
  | ei
  /-- `ILLEGAL_FC`, template `11111100` of table 0, rule R296. -/
  | illegalFC
  /-- `ILLEGAL_FD`, template `11111101` of table 0, rule R296. -/
  | illegalFD
  /-- `CP d8`, template `11111110` of table 0, rule R203. -/
  | cpD8 (v : Byte)
  /-- `RLC r`, template `00000sss` of table 1, rule R234. -/
  | rlcR (src : R8)
  /-- `RLC (HL)`, template `00000110` of table 1, rule R235. -/
  | rlcIndHl
  /-- `RRC r`, template `00001sss` of table 1, rule R236. -/
  | rrcR (src : R8)
  /-- `RRC (HL)`, template `00001110` of table 1, rule R237. -/
  | rrcIndHl
  /-- `RL r`, template `00010sss` of table 1, rule R238. -/
  | rlR (src : R8)
  /-- `RL (HL)`, template `00010110` of table 1, rule R239. -/
  | rlIndHl
  /-- `RR r`, template `00011sss` of table 1, rule R240. -/
  | rrR (src : R8)
  /-- `RR (HL)`, template `00011110` of table 1, rule R241. -/
  | rrIndHl
  /-- `SLA r`, template `00100sss` of table 1, rule R242. -/
  | slaR (src : R8)
  /-- `SLA (HL)`, template `00100110` of table 1, rule R243. -/
  | slaIndHl
  /-- `SRA r`, template `00101sss` of table 1, rule R244. -/
  | sraR (src : R8)
  /-- `SRA (HL)`, template `00101110` of table 1, rule R245. -/
  | sraIndHl
  /-- `SWAP r`, template `00110sss` of table 1, rule R246. -/
  | swapR (src : R8)
  /-- `SWAP (HL)`, template `00110110` of table 1, rule R247. -/
  | swapIndHl
  /-- `SRL r`, template `00111sss` of table 1, rule R248. -/
  | srlR (src : R8)
  /-- `SRL (HL)`, template `00111110` of table 1, rule R249. -/
  | srlIndHl
  /-- `BIT b,r`, template `01bbbsss` of table 1, rule R250. -/
  | bitR (b : BitVec 3) (src : R8)
  /-- `BIT b,(HL)`, template `01bbb110` of table 1, rule R251. -/
  | bitIndHl (b : BitVec 3)
  /-- `RES b,r`, template `10bbbsss` of table 1, rule R252. -/
  | resR (b : BitVec 3) (src : R8)
  /-- `RES b,(HL)`, template `10bbb110` of table 1, rule R253. -/
  | resIndHl (b : BitVec 3)
  /-- `SET b,r`, template `11bbbsss` of table 1, rule R254. -/
  | setR (b : BitVec 3) (src : R8)
  /-- `SET b,(HL)`, template `11bbb110` of table 1, rule R255. -/
  | setIndHl (b : BitVec 3)
deriving DecidableEq, Repr

end Sys2Proof
end

