-- ==== Sys2Proof/WellFormed.lean ====
section
/-! DEFINITION. Which terms of `Instr` are instructions of the byte stream.

Two checks. (1) A register form has no operand index 6: every index-6 byte is finally decoded to an `(HL)` template or
to HALT (R70, "a handler of a register form never receives 6 in that field"). (2) `PREFIX CB` is no instruction of the
byte stream: 0xCB at PC always selects table 1 (R80, R295). Every other operand value is legal (R307). -/

namespace Sys2Proof

/-- An `r8` index that names a register: any value but 6 (R70). -/
def R8.isReg : R8 → Bool
  | .indHl => false
  | .b | .c | .d | .e | .h | .l | .a => true

/-- The check of this file's header. -/
def WellFormed : Instr → Bool
  | .nop => true
  | .ldRrD16 _ _ => true
  | .ldIndBcA => true
  | .incRr _ => true
  | .incR dst => dst.isReg
  | .decR dst => dst.isReg
  | .ldRD8 dst _ => dst.isReg
  | .rlca => true
  | .ldIndA16Sp _ => true
  | .addHlRr _ => true
  | .ldAIndBc => true
  | .decRr _ => true
  | .rrca => true
  | .stop => true
  | .ldIndDeA => true
  | .rla => true
  | .jrE8 _ => true
  | .ldAIndDe => true
  | .rra => true
  | .jrCcE8 _ _ => true
  | .ldIndHlIncA => true
  | .daa => true
  | .ldAIndHlInc => true
  | .cpl => true
  | .ldIndHlDecA => true
  | .incIndHl => true
  | .decIndHl => true
  | .ldIndHlD8 _ => true
  | .scf => true
  | .ldAIndHlDec => true
  | .ccf => true
  | .ldRR dst src => dst.isReg && src.isReg
  | .ldRIndHl dst => dst.isReg
  | .ldIndHlR src => src.isReg
  | .halt => true
  | .addAR src => src.isReg
  | .addAIndHl => true
  | .adcAR src => src.isReg
  | .adcAIndHl => true
  | .subR src => src.isReg
  | .subIndHl => true
  | .sbcAR src => src.isReg
  | .sbcAIndHl => true
  | .andR src => src.isReg
  | .andIndHl => true
  | .xorR src => src.isReg
  | .xorIndHl => true
  | .orR src => src.isReg
  | .orIndHl => true
  | .cpR src => src.isReg
  | .cpIndHl => true
  | .retCc _ => true
  | .popRr _ => true
  | .jpCcA16 _ _ => true
  | .jpA16 _ => true
  | .callCcA16 _ _ => true
  | .pushRr _ => true
  | .addAD8 _ => true
  | .rstT _ => true
  | .ret => true
  | .prefixCb => false
  | .callA16 _ => true
  | .adcAD8 _ => true
  | .illegalD3 => true
  | .subD8 _ => true
  | .reti => true
  | .illegalDB => true
  | .illegalDD => true
  | .sbcAD8 _ => true
  | .ldhIndA8A _ => true
  | .ldIndCA => true
  | .illegalE3 => true
  | .illegalE4 => true
  | .andD8 _ => true
  | .addSpE8 _ => true
  | .jpHl => true
  | .ldIndA16A _ => true
  | .illegalEB => true
  | .illegalEC => true
  | .illegalED => true
  | .xorD8 _ => true
  | .ldhAIndA8 _ => true
  | .ldAIndC => true
  | .di => true
  | .illegalF4 => true
  | .orD8 _ => true
  | .ldHlSpE8 _ => true
  | .ldSpHl => true
  | .ldAIndA16 _ => true
  | .ei => true
  | .illegalFC => true
  | .illegalFD => true
  | .cpD8 _ => true
  | .rlcR src => src.isReg
  | .rlcIndHl => true
  | .rrcR src => src.isReg
  | .rrcIndHl => true
  | .rlR src => src.isReg
  | .rlIndHl => true
  | .rrR src => src.isReg
  | .rrIndHl => true
  | .slaR src => src.isReg
  | .slaIndHl => true
  | .sraR src => src.isReg
  | .sraIndHl => true
  | .swapR src => src.isReg
  | .swapIndHl => true
  | .srlR src => src.isReg
  | .srlIndHl => true
  | .bitR _ src => src.isReg
  | .bitIndHl _ => true
  | .resR _ src => src.isReg
  | .resIndHl _ => true
  | .setR _ src => src.isReg
  | .setIndHl _ => true

end Sys2Proof
end

