-- ==== Sys2Proof/Decode.lean ====
section
/-! DEFINITION. The decoder and the encoder. The decoder is `Decode` of 30_encoding.md R63 over the two canonical
tables (R76, R77): the matching template with the most constant bits. A row holds the template's text, its mask and
match columns, and the instruction its handler runs, built from the extracted fields (R55, R121) and the operand bytes
of its format (R68, R69). -/

namespace Sys2Proof

open Machine

/-- What a decoded opcode byte still needs: nothing, one operand byte, or a 16-bit operand (the formats of R68). -/
inductive Form where
  | op (i : Instr)
  | imm8 (k : Byte → Instr)
  | imm16 (k : Word → Instr)

/-- The `r8` operand of a 3-bit field value (R70). -/
def R8.ofIndex : Nat → R8
  | 0 => .b
  | 1 => .c
  | 2 => .d
  | 3 => .e
  | 4 => .h
  | 5 => .l
  | 6 => .indHl
  | _ => .a

/-- The field value of an `r8` operand (R70). -/
def R8.index : R8 → Nat
  | .b => 0
  | .c => 1
  | .d => 2
  | .e => 3
  | .h => 4
  | .l => 5
  | .indHl => 6
  | .a => 7

/-- The `r16` pair of a 2-bit field value (R71). -/
def R16.ofIndex : Nat → R16
  | 0 => .bc
  | 1 => .de
  | 2 => .hl
  | _ => .sp

/-- The field value of an `r16` pair (R71). -/
def R16.index : R16 → Nat
  | .bc => 0
  | .de => 1
  | .hl => 2
  | .sp => 3

/-- The `r16stk` pair of a 2-bit field value (R71). -/
def R16Stk.ofIndex : Nat → R16Stk
  | 0 => .bc
  | 1 => .de
  | 2 => .hl
  | _ => .af

/-- The field value of an `r16stk` pair (R71). -/
def R16Stk.index : R16Stk → Nat
  | .bc => 0
  | .de => 1
  | .hl => 2
  | .af => 3

/-- The condition of a 2-bit field value (R72). -/
def Cond.ofIndex : Nat → Cond
  | 0 => .nz
  | 1 => .z
  | 2 => .nc
  | _ => .c

/-- The field value of a condition (R72). -/
def Cond.index : Cond → Nat
  | .nz => 0
  | .z => 1
  | .nc => 2
  | .c => 3

/-- One row of a canonical table: the template text, the mask and match columns, and the instruction. -/
structure Row where
  text : String
  mask : Byte
  val : Byte
  build : (Char → Nat) → Form

/-- Table 0, block 00 (bits 7..6), rows of R76, part 1 -/
def rows0Block00a : List Row := [
  ⟨"00000000", 0xFF#8, 0x00#8, fun _ => .op .nop⟩,
  ⟨"00pp0001", 0xCF#8, 0x01#8, fun f => .imm16 fun x => .ldRrD16 (.ofIndex (f 'p')) x⟩,
  ⟨"00000010", 0xFF#8, 0x02#8, fun _ => .op .ldIndBcA⟩,
  ⟨"00pp0011", 0xCF#8, 0x03#8, fun f => .op (.incRr (.ofIndex (f 'p')))⟩,
  ⟨"00ddd100", 0xC7#8, 0x04#8, fun f => .op (.incR (.ofIndex (f 'd')))⟩,
  ⟨"00ddd101", 0xC7#8, 0x05#8, fun f => .op (.decR (.ofIndex (f 'd')))⟩,
  ⟨"00ddd110", 0xC7#8, 0x06#8, fun f => .imm8 fun x => .ldRD8 (.ofIndex (f 'd')) x⟩,
  ⟨"00000111", 0xFF#8, 0x07#8, fun _ => .op .rlca⟩,
  ⟨"00001000", 0xFF#8, 0x08#8, fun _ => .imm16 fun x => .ldIndA16Sp x⟩,
  ⟨"00pp1001", 0xCF#8, 0x09#8, fun f => .op (.addHlRr (.ofIndex (f 'p')))⟩,
  ⟨"00001010", 0xFF#8, 0x0A#8, fun _ => .op .ldAIndBc⟩,
  ⟨"00pp1011", 0xCF#8, 0x0B#8, fun f => .op (.decRr (.ofIndex (f 'p')))⟩,
  ⟨"00001111", 0xFF#8, 0x0F#8, fun _ => .op .rrca⟩,
  ⟨"00010000", 0xFF#8, 0x10#8, fun _ => .op .stop⟩,
  ⟨"00010010", 0xFF#8, 0x12#8, fun _ => .op .ldIndDeA⟩,
  ⟨"00010111", 0xFF#8, 0x17#8, fun _ => .op .rla⟩,
  ⟨"00011000", 0xFF#8, 0x18#8, fun _ => .imm8 fun x => .jrE8 x⟩,
  ⟨"00011010", 0xFF#8, 0x1A#8, fun _ => .op .ldAIndDe⟩,
  ⟨"00011111", 0xFF#8, 0x1F#8, fun _ => .op .rra⟩,
  ⟨"001cc000", 0xE7#8, 0x20#8, fun f => .imm8 fun x => .jrCcE8 (.ofIndex (f 'c')) x⟩]

/-- Table 0, block 00 (bits 7..6), rows of R76, part 2 -/
def rows0Block00b : List Row := [
  ⟨"00100010", 0xFF#8, 0x22#8, fun _ => .op .ldIndHlIncA⟩,
  ⟨"00100111", 0xFF#8, 0x27#8, fun _ => .op .daa⟩,
  ⟨"00101010", 0xFF#8, 0x2A#8, fun _ => .op .ldAIndHlInc⟩,
  ⟨"00101111", 0xFF#8, 0x2F#8, fun _ => .op .cpl⟩,
  ⟨"00110010", 0xFF#8, 0x32#8, fun _ => .op .ldIndHlDecA⟩,
  ⟨"00110100", 0xFF#8, 0x34#8, fun _ => .op .incIndHl⟩,
  ⟨"00110101", 0xFF#8, 0x35#8, fun _ => .op .decIndHl⟩,
  ⟨"00110110", 0xFF#8, 0x36#8, fun _ => .imm8 fun x => .ldIndHlD8 x⟩,
  ⟨"00110111", 0xFF#8, 0x37#8, fun _ => .op .scf⟩,
  ⟨"00111010", 0xFF#8, 0x3A#8, fun _ => .op .ldAIndHlDec⟩,
  ⟨"00111111", 0xFF#8, 0x3F#8, fun _ => .op .ccf⟩]

/-- Table 0, block 01 (bits 7..6), rows of R76 -/
def rows0Block01 : List Row := [
  ⟨"01dddsss", 0xC0#8, 0x40#8, fun f => .op (.ldRR (.ofIndex (f 'd')) (.ofIndex (f 's')))⟩,
  ⟨"01ddd110", 0xC7#8, 0x46#8, fun f => .op (.ldRIndHl (.ofIndex (f 'd')))⟩,
  ⟨"01110sss", 0xF8#8, 0x70#8, fun f => .op (.ldIndHlR (.ofIndex (f 's')))⟩,
  ⟨"01110110", 0xFF#8, 0x76#8, fun _ => .op .halt⟩]

/-- Table 0, block 10 (bits 7..6), rows of R76 -/
def rows0Block10 : List Row := [
  ⟨"10000sss", 0xF8#8, 0x80#8, fun f => .op (.addAR (.ofIndex (f 's')))⟩,
  ⟨"10000110", 0xFF#8, 0x86#8, fun _ => .op .addAIndHl⟩,
  ⟨"10001sss", 0xF8#8, 0x88#8, fun f => .op (.adcAR (.ofIndex (f 's')))⟩,
  ⟨"10001110", 0xFF#8, 0x8E#8, fun _ => .op .adcAIndHl⟩,
  ⟨"10010sss", 0xF8#8, 0x90#8, fun f => .op (.subR (.ofIndex (f 's')))⟩,
  ⟨"10010110", 0xFF#8, 0x96#8, fun _ => .op .subIndHl⟩,
  ⟨"10011sss", 0xF8#8, 0x98#8, fun f => .op (.sbcAR (.ofIndex (f 's')))⟩,
  ⟨"10011110", 0xFF#8, 0x9E#8, fun _ => .op .sbcAIndHl⟩,
  ⟨"10100sss", 0xF8#8, 0xA0#8, fun f => .op (.andR (.ofIndex (f 's')))⟩,
  ⟨"10100110", 0xFF#8, 0xA6#8, fun _ => .op .andIndHl⟩,
  ⟨"10101sss", 0xF8#8, 0xA8#8, fun f => .op (.xorR (.ofIndex (f 's')))⟩,
  ⟨"10101110", 0xFF#8, 0xAE#8, fun _ => .op .xorIndHl⟩,
  ⟨"10110sss", 0xF8#8, 0xB0#8, fun f => .op (.orR (.ofIndex (f 's')))⟩,
  ⟨"10110110", 0xFF#8, 0xB6#8, fun _ => .op .orIndHl⟩,
  ⟨"10111sss", 0xF8#8, 0xB8#8, fun f => .op (.cpR (.ofIndex (f 's')))⟩,
  ⟨"10111110", 0xFF#8, 0xBE#8, fun _ => .op .cpIndHl⟩]

/-- Table 0, block 11 (bits 7..6), rows of R76, part 1 -/
def rows0Block11a : List Row := [
  ⟨"110cc000", 0xE7#8, 0xC0#8, fun f => .op (.retCc (.ofIndex (f 'c')))⟩,
  ⟨"11pp0001", 0xCF#8, 0xC1#8, fun f => .op (.popRr (.ofIndex (f 'p')))⟩,
  ⟨"110cc010", 0xE7#8, 0xC2#8, fun f => .imm16 fun x => .jpCcA16 (.ofIndex (f 'c')) x⟩,
  ⟨"11000011", 0xFF#8, 0xC3#8, fun _ => .imm16 fun x => .jpA16 x⟩,
  ⟨"110cc100", 0xE7#8, 0xC4#8, fun f => .imm16 fun x => .callCcA16 (.ofIndex (f 'c')) x⟩,
  ⟨"11pp0101", 0xCF#8, 0xC5#8, fun f => .op (.pushRr (.ofIndex (f 'p')))⟩,
  ⟨"11000110", 0xFF#8, 0xC6#8, fun _ => .imm8 fun x => .addAD8 x⟩,
  ⟨"11ttt111", 0xC7#8, 0xC7#8, fun f => .op (.rstT (.ofNat 3 (f 't')))⟩,
  ⟨"11001001", 0xFF#8, 0xC9#8, fun _ => .op .ret⟩,
  ⟨"11001011", 0xFF#8, 0xCB#8, fun _ => .op .prefixCb⟩,
  ⟨"11001101", 0xFF#8, 0xCD#8, fun _ => .imm16 fun x => .callA16 x⟩,
  ⟨"11001110", 0xFF#8, 0xCE#8, fun _ => .imm8 fun x => .adcAD8 x⟩,
  ⟨"11010011", 0xFF#8, 0xD3#8, fun _ => .op .illegalD3⟩,
  ⟨"11010110", 0xFF#8, 0xD6#8, fun _ => .imm8 fun x => .subD8 x⟩,
  ⟨"11011001", 0xFF#8, 0xD9#8, fun _ => .op .reti⟩,
  ⟨"11011011", 0xFF#8, 0xDB#8, fun _ => .op .illegalDB⟩,
  ⟨"11011101", 0xFF#8, 0xDD#8, fun _ => .op .illegalDD⟩,
  ⟨"11011110", 0xFF#8, 0xDE#8, fun _ => .imm8 fun x => .sbcAD8 x⟩,
  ⟨"11100000", 0xFF#8, 0xE0#8, fun _ => .imm8 fun x => .ldhIndA8A x⟩,
  ⟨"11100010", 0xFF#8, 0xE2#8, fun _ => .op .ldIndCA⟩]

/-- Table 0, block 11 (bits 7..6), rows of R76, part 2 -/
def rows0Block11b : List Row := [
  ⟨"11100011", 0xFF#8, 0xE3#8, fun _ => .op .illegalE3⟩,
  ⟨"11100100", 0xFF#8, 0xE4#8, fun _ => .op .illegalE4⟩,
  ⟨"11100110", 0xFF#8, 0xE6#8, fun _ => .imm8 fun x => .andD8 x⟩,
  ⟨"11101000", 0xFF#8, 0xE8#8, fun _ => .imm8 fun x => .addSpE8 x⟩,
  ⟨"11101001", 0xFF#8, 0xE9#8, fun _ => .op .jpHl⟩,
  ⟨"11101010", 0xFF#8, 0xEA#8, fun _ => .imm16 fun x => .ldIndA16A x⟩,
  ⟨"11101011", 0xFF#8, 0xEB#8, fun _ => .op .illegalEB⟩,
  ⟨"11101100", 0xFF#8, 0xEC#8, fun _ => .op .illegalEC⟩,
  ⟨"11101101", 0xFF#8, 0xED#8, fun _ => .op .illegalED⟩,
  ⟨"11101110", 0xFF#8, 0xEE#8, fun _ => .imm8 fun x => .xorD8 x⟩,
  ⟨"11110000", 0xFF#8, 0xF0#8, fun _ => .imm8 fun x => .ldhAIndA8 x⟩,
  ⟨"11110010", 0xFF#8, 0xF2#8, fun _ => .op .ldAIndC⟩,
  ⟨"11110011", 0xFF#8, 0xF3#8, fun _ => .op .di⟩,
  ⟨"11110100", 0xFF#8, 0xF4#8, fun _ => .op .illegalF4⟩,
  ⟨"11110110", 0xFF#8, 0xF6#8, fun _ => .imm8 fun x => .orD8 x⟩,
  ⟨"11111000", 0xFF#8, 0xF8#8, fun _ => .imm8 fun x => .ldHlSpE8 x⟩,
  ⟨"11111001", 0xFF#8, 0xF9#8, fun _ => .op .ldSpHl⟩,
  ⟨"11111010", 0xFF#8, 0xFA#8, fun _ => .imm16 fun x => .ldAIndA16 x⟩,
  ⟨"11111011", 0xFF#8, 0xFB#8, fun _ => .op .ei⟩,
  ⟨"11111100", 0xFF#8, 0xFC#8, fun _ => .op .illegalFC⟩]

/-- Table 0, block 11 (bits 7..6), rows of R76, part 3 -/
def rows0Block11c : List Row := [
  ⟨"11111101", 0xFF#8, 0xFD#8, fun _ => .op .illegalFD⟩,
  ⟨"11111110", 0xFF#8, 0xFE#8, fun _ => .imm8 fun x => .cpD8 x⟩]

/-- Table 1, block 00 (bits 7..6), rows of R77 -/
def rows1Block00 : List Row := [
  ⟨"00000sss", 0xF8#8, 0x00#8, fun f => .op (.rlcR (.ofIndex (f 's')))⟩,
  ⟨"00000110", 0xFF#8, 0x06#8, fun _ => .op .rlcIndHl⟩,
  ⟨"00001sss", 0xF8#8, 0x08#8, fun f => .op (.rrcR (.ofIndex (f 's')))⟩,
  ⟨"00001110", 0xFF#8, 0x0E#8, fun _ => .op .rrcIndHl⟩,
  ⟨"00010sss", 0xF8#8, 0x10#8, fun f => .op (.rlR (.ofIndex (f 's')))⟩,
  ⟨"00010110", 0xFF#8, 0x16#8, fun _ => .op .rlIndHl⟩,
  ⟨"00011sss", 0xF8#8, 0x18#8, fun f => .op (.rrR (.ofIndex (f 's')))⟩,
  ⟨"00011110", 0xFF#8, 0x1E#8, fun _ => .op .rrIndHl⟩,
  ⟨"00100sss", 0xF8#8, 0x20#8, fun f => .op (.slaR (.ofIndex (f 's')))⟩,
  ⟨"00100110", 0xFF#8, 0x26#8, fun _ => .op .slaIndHl⟩,
  ⟨"00101sss", 0xF8#8, 0x28#8, fun f => .op (.sraR (.ofIndex (f 's')))⟩,
  ⟨"00101110", 0xFF#8, 0x2E#8, fun _ => .op .sraIndHl⟩,
  ⟨"00110sss", 0xF8#8, 0x30#8, fun f => .op (.swapR (.ofIndex (f 's')))⟩,
  ⟨"00110110", 0xFF#8, 0x36#8, fun _ => .op .swapIndHl⟩,
  ⟨"00111sss", 0xF8#8, 0x38#8, fun f => .op (.srlR (.ofIndex (f 's')))⟩,
  ⟨"00111110", 0xFF#8, 0x3E#8, fun _ => .op .srlIndHl⟩]

/-- Table 1, block 01 (bits 7..6), rows of R77 -/
def rows1Block01 : List Row := [
  ⟨"01bbbsss", 0xC0#8, 0x40#8, fun f => .op (.bitR (.ofNat 3 (f 'b')) (.ofIndex (f 's')))⟩,
  ⟨"01bbb110", 0xC7#8, 0x46#8, fun f => .op (.bitIndHl (.ofNat 3 (f 'b')))⟩]

/-- Table 1, block 10 (bits 7..6), rows of R77 -/
def rows1Block10 : List Row := [
  ⟨"10bbbsss", 0xC0#8, 0x80#8, fun f => .op (.resR (.ofNat 3 (f 'b')) (.ofIndex (f 's')))⟩,
  ⟨"10bbb110", 0xC7#8, 0x86#8, fun f => .op (.resIndHl (.ofNat 3 (f 'b')))⟩]

/-- Table 1, block 11 (bits 7..6), rows of R77 -/
def rows1Block11 : List Row := [
  ⟨"11bbbsss", 0xC0#8, 0xC0#8, fun f => .op (.setR (.ofNat 3 (f 'b')) (.ofIndex (f 's')))⟩,
  ⟨"11bbb110", 0xC7#8, 0xC6#8, fun f => .op (.setIndHl (.ofNat 3 (f 'b')))⟩]

/-- The canonical table 0 (R76): 93 templates. -/
def table0 : List Row := rows0Block00a ++ rows0Block00b ++ rows0Block01 ++ rows0Block10 ++ rows0Block11a ++ rows0Block11b ++ rows0Block11c

/-- The canonical table 1 (R77): 22 templates. -/
def table1 : List Row := rows1Block00 ++ rows1Block01 ++ rows1Block10 ++ rows1Block11

/-- The rows of a table (R67). -/
def table : TableIx → List Row
  | .t0 => table0
  | .t1 => table1

/-- `Test(b)` of a row (R54): `(byte & constMask) == constVal`. -/
def Row.test (r : Row) (b : Byte) : Bool := Nat.beq (b.toNat &&& r.mask.toNat) r.val.toNat

/-- `Decode(T, b)` (R63): of the rows that match, the one whose mask has the most 1 bits. Where two are equal in that
the later one stands; in a well-formed table (R64) no two are. -/
def mostSpecific : List Row → Byte → Option Row
  | [], _ => none
  | r :: rs, b =>
    if r.test b then
      match mostSpecific rs b with
      | none => some r
      | some q => if popcount q.mask < popcount r.mask then some r else some q
    else mostSpecific rs b

/-- The fields of a template text in byte `b`, by letter (R55, R121). -/
def fieldsOf (text : String) (b : Byte) (ch : Char) : Nat :=
  match parseTemplate text with
  | .ok t => t.field b ch
  | .error _ => 0

/-- The opcode byte `b` decoded in a canonical table (R63, R121); `none` is no-match. -/
def decodeOpcode (t : TableIx) (b : Byte) : Option Form :=
  match mostSpecific (table t) b with
  | some r => some (r.build (fieldsOf r.text b))
  | none => none

/-- Why a byte list is not the start of an instruction. -/
inductive DecodeReject where
  /-- The bytes end before the instruction does. -/
  | truncated
  /-- No template of the table matches the opcode byte (R303); not reached with the canonical tables (R78). -/
  | noMatch (t : TableIx) (opcode : Byte)
deriving DecidableEq, Repr

/-- The result of decoding a byte list: the instruction and the bytes after it, or why there is none. -/
inductive Decoded where
  | ok (i : Instr) (rest : List Byte)
  | reject (why : DecodeReject)
deriving DecidableEq, Repr

/-- The operand bytes of a form, in address order, low byte first (R68, R69, R124). -/
def takeOperands : Form → List Byte → Decoded
  | .op i, rest => .ok i rest
  | .imm8 k, x :: rest => .ok (k x) rest
  | .imm8 _, [] => .reject .truncated
  | .imm16 k, lo :: hi :: rest => .ok (k (mk16 hi lo)) rest
  | .imm16 _, _ => .reject .truncated

/-- An opcode byte in its table, then its operand bytes. -/
def decodeIn (t : TableIx) (b : Byte) (rest : List Byte) : Decoded :=
  match decodeOpcode t b with
  | some f => takeOperands f rest
  | none => .reject (.noMatch t b)

/-- The decoder on bytes at consecutive addresses (R67, R75): the prefix byte selects table 1 for the byte after it. -/
def decode : List Byte → Decoded
  | [] => .reject .truncated
  | b :: rest =>
    if b = Config.prefixByte then
      match rest with
      | [] => .reject .truncated
      | b' :: rest' => decodeIn .t1 b' rest'
    else decodeIn .t0 b rest

/-- The instruction of a decoder result. -/
def Decoded.instr? : Decoded → Option Instr
  | .ok i _ => some i
  | .reject _ => none

/-- Three bytes, the longest instruction (R68), of which the first `nbits` bits are those of `w`, bit 0 the least
significant bit of the first byte, and the others 0. -/
def wordBytes (nbits w : Nat) : List Byte :=
  let v := w % 2 ^ nbits
  [BitVec.ofNat 8 v, BitVec.ofNat 8 (v / 256), BitVec.ofNat 8 (v / 65536)]

/-- The instruction the decoder reads from a table word. A table 1 instruction has the prefix byte as its first byte
(R68), so its word is `0xCB` in bits 7..0 and the opcode in bits 15..8 (log 11). -/
def decodeTableWord (nbits w : Nat) : Option Instr := (decode (wordBytes nbits w)).instr?

/-- An opcode byte: the template's constant bits and a field value moved to the field's lowest bit (R50, R68). -/
def opcode1 (base : Nat) (x lo : Nat) : Byte := BitVec.ofNat 8 (base + x * 2 ^ lo)

/-- The bytes of an instruction, from the encodings of R68 to R77. (`prefixCb` is not well-formed: its one byte is the
start of a table 1 instruction.) -/
def encode : Instr → List Byte
  | .nop => [0b00000000#8]
  | .ldRrD16 p v => [opcode1 0b00000001 p.index 4, lo8 v, hi8 v]
  | .ldIndBcA => [0b00000010#8]
  | .incRr p => [opcode1 0b00000011 p.index 4]
  | .incR dst => [opcode1 0b00000100 dst.index 3]
  | .decR dst => [opcode1 0b00000101 dst.index 3]
  | .ldRD8 dst v => [opcode1 0b00000110 dst.index 3, v]
  | .rlca => [0b00000111#8]
  | .ldIndA16Sp a => [0b00001000#8, lo8 a, hi8 a]
  | .addHlRr p => [opcode1 0b00001001 p.index 4]
  | .ldAIndBc => [0b00001010#8]
  | .decRr p => [opcode1 0b00001011 p.index 4]
  | .rrca => [0b00001111#8]
  | .stop => [0b00010000#8]
  | .ldIndDeA => [0b00010010#8]
  | .rla => [0b00010111#8]
  | .jrE8 e => [0b00011000#8, e]
  | .ldAIndDe => [0b00011010#8]
  | .rra => [0b00011111#8]
  | .jrCcE8 cc e => [opcode1 0b00100000 cc.index 3, e]
  | .ldIndHlIncA => [0b00100010#8]
  | .daa => [0b00100111#8]
  | .ldAIndHlInc => [0b00101010#8]
  | .cpl => [0b00101111#8]
  | .ldIndHlDecA => [0b00110010#8]
  | .incIndHl => [0b00110100#8]
  | .decIndHl => [0b00110101#8]
  | .ldIndHlD8 v => [0b00110110#8, v]
  | .scf => [0b00110111#8]
  | .ldAIndHlDec => [0b00111010#8]
  | .ccf => [0b00111111#8]
  | .ldRR dst src => [opcode1 (0b01000000 + dst.index * 2 ^ 3) src.index 0]
  | .ldRIndHl dst => [opcode1 0b01000110 dst.index 3]
  | .ldIndHlR src => [opcode1 0b01110000 src.index 0]
  | .halt => [0b01110110#8]
  | .addAR src => [opcode1 0b10000000 src.index 0]
  | .addAIndHl => [0b10000110#8]
  | .adcAR src => [opcode1 0b10001000 src.index 0]
  | .adcAIndHl => [0b10001110#8]
  | .subR src => [opcode1 0b10010000 src.index 0]
  | .subIndHl => [0b10010110#8]
  | .sbcAR src => [opcode1 0b10011000 src.index 0]
  | .sbcAIndHl => [0b10011110#8]
  | .andR src => [opcode1 0b10100000 src.index 0]
  | .andIndHl => [0b10100110#8]
  | .xorR src => [opcode1 0b10101000 src.index 0]
  | .xorIndHl => [0b10101110#8]
  | .orR src => [opcode1 0b10110000 src.index 0]
  | .orIndHl => [0b10110110#8]
  | .cpR src => [opcode1 0b10111000 src.index 0]
  | .cpIndHl => [0b10111110#8]
  | .retCc cc => [opcode1 0b11000000 cc.index 3]
  | .popRr p => [opcode1 0b11000001 p.index 4]
  | .jpCcA16 cc a => [opcode1 0b11000010 cc.index 3, lo8 a, hi8 a]
  | .jpA16 a => [0b11000011#8, lo8 a, hi8 a]
  | .callCcA16 cc a => [opcode1 0b11000100 cc.index 3, lo8 a, hi8 a]
  | .pushRr p => [opcode1 0b11000101 p.index 4]
  | .addAD8 v => [0b11000110#8, v]
  | .rstT t => [opcode1 0b11000111 t.toNat 3]
  | .ret => [0b11001001#8]
  | .prefixCb => [0b11001011#8]
  | .callA16 a => [0b11001101#8, lo8 a, hi8 a]
  | .adcAD8 v => [0b11001110#8, v]
  | .illegalD3 => [0b11010011#8]
  | .subD8 v => [0b11010110#8, v]
  | .reti => [0b11011001#8]
  | .illegalDB => [0b11011011#8]
  | .illegalDD => [0b11011101#8]
  | .sbcAD8 v => [0b11011110#8, v]
  | .ldhIndA8A n => [0b11100000#8, n]
  | .ldIndCA => [0b11100010#8]
  | .illegalE3 => [0b11100011#8]
  | .illegalE4 => [0b11100100#8]
  | .andD8 v => [0b11100110#8, v]
  | .addSpE8 e => [0b11101000#8, e]
  | .jpHl => [0b11101001#8]
  | .ldIndA16A a => [0b11101010#8, lo8 a, hi8 a]
  | .illegalEB => [0b11101011#8]
  | .illegalEC => [0b11101100#8]
  | .illegalED => [0b11101101#8]
  | .xorD8 v => [0b11101110#8, v]
  | .ldhAIndA8 n => [0b11110000#8, n]
  | .ldAIndC => [0b11110010#8]
  | .di => [0b11110011#8]
  | .illegalF4 => [0b11110100#8]
  | .orD8 v => [0b11110110#8, v]
  | .ldHlSpE8 e => [0b11111000#8, e]
  | .ldSpHl => [0b11111001#8]
  | .ldAIndA16 a => [0b11111010#8, lo8 a, hi8 a]
  | .ei => [0b11111011#8]
  | .illegalFC => [0b11111100#8]
  | .illegalFD => [0b11111101#8]
  | .cpD8 v => [0b11111110#8, v]
  | .rlcR src => [Config.prefixByte, opcode1 0b00000000 src.index 0]
  | .rlcIndHl => [Config.prefixByte, 0b00000110#8]
  | .rrcR src => [Config.prefixByte, opcode1 0b00001000 src.index 0]
  | .rrcIndHl => [Config.prefixByte, 0b00001110#8]
  | .rlR src => [Config.prefixByte, opcode1 0b00010000 src.index 0]
  | .rlIndHl => [Config.prefixByte, 0b00010110#8]
  | .rrR src => [Config.prefixByte, opcode1 0b00011000 src.index 0]
  | .rrIndHl => [Config.prefixByte, 0b00011110#8]
  | .slaR src => [Config.prefixByte, opcode1 0b00100000 src.index 0]
  | .slaIndHl => [Config.prefixByte, 0b00100110#8]
  | .sraR src => [Config.prefixByte, opcode1 0b00101000 src.index 0]
  | .sraIndHl => [Config.prefixByte, 0b00101110#8]
  | .swapR src => [Config.prefixByte, opcode1 0b00110000 src.index 0]
  | .swapIndHl => [Config.prefixByte, 0b00110110#8]
  | .srlR src => [Config.prefixByte, opcode1 0b00111000 src.index 0]
  | .srlIndHl => [Config.prefixByte, 0b00111110#8]
  | .bitR b src => [Config.prefixByte, opcode1 (0b01000000 + b.toNat * 2 ^ 3) src.index 0]
  | .bitIndHl b => [Config.prefixByte, opcode1 0b01000110 b.toNat 3]
  | .resR b src => [Config.prefixByte, opcode1 (0b10000000 + b.toNat * 2 ^ 3) src.index 0]
  | .resIndHl b => [Config.prefixByte, opcode1 0b10000110 b.toNat 3]
  | .setR b src => [Config.prefixByte, opcode1 (0b11000000 + b.toNat * 2 ^ 3) src.index 0]
  | .setIndHl b => [Config.prefixByte, opcode1 0b11000110 b.toNat 3]

end Sys2Proof
end

