-- ==== Sys2Proof/Machine/State.lean ====
section
/-! DEFINITION. The state of one Processor and what lies behind its bus (10_state.md R10 to R27), as plain data. -/

namespace Sys2Proof.Machine

/-- The Register File (R10): eight bytes and two 16-bit words. The pairs AF, BC, DE, HL are views of the bytes (R12,
`RegFile.get16`). Bits 3..0 of `f` are written 0 by every write (R11, `RegFile.setF`). -/
structure RegFile where
  a : Byte
  f : Byte
  b : Byte
  c : Byte
  d : Byte
  e : Byte
  h : Byte
  l : Byte
  sp : Word
  pc : Word
deriving DecidableEq, Repr

/-- The 8-bit register identifiers, a closed set (R14, R16). -/
inductive Id8 where
  | a
  | f
  | b
  | c
  | d
  | e
  | h
  | l
deriving DecidableEq, Repr

/-- The 16-bit register identifiers, a closed set (R15, R16). -/
inductive Id16 where
  | af
  | bc
  | de
  | hl
  | sp
  | pc
deriving DecidableEq, Repr

/-- A run-time fault and its record `(kind, table, opcode)` (60_exceptions.md R300). A fault is no outcome of a step of
this model: the step stores the record in the fault latch and answers the state R310 describes (log 7). That is safe:
nothing is left out, and no step ends without a state. -/
inductive Fault where
  /-- `InstructionCoverageError` (R303): raised by `Execute` when no template matches. Safe (see above); not reached with
  the canonical tables (R78). -/
  | instructionCoverage (table : TableIx) (opcode : Byte)
  /-- `UnimplementedOpcodeError` (R304): raised by the handlers of STOP, HALT, DI, EI, RETI, PREFIX CB and the eleven
  undefined opcodes. Safe (see above). -/
  | unimplementedOpcode (table : TableIx) (opcode : Byte)
  /-- `UnreachableDispatchError` (R305): raised by `Execute` when the decoded template is a group template. Safe (see
  above); the canonical tables register none (R66). -/
  | unreachableDispatch (table : TableIx) (opcode : Byte)
deriving DecidableEq, Repr

/-- Refusals. No step of the finished model answers one; the last three are the construction-time kinds of 00_scope.md
R7 and 60_exceptions.md R300, answered by the table builder of Machine/Interpreter.lean. -/
inductive Refusal where
  /-- An instruction without a meaning in this model: raised by an arm of `exec`. Safe: the run stops. -/
  | notModelled (mnemonic : String)
  /-- `TemplateParseError` (R301): raised by `addInstruction`. Safe: there is no machine. -/
  | templateParse (table : TableIx) (text : String)
  /-- `DuplicateOpcodeError` (R302): raised by `addInstruction`. Safe: there is no machine. -/
  | duplicateOpcode (table : TableIx) (text : String)
  /-- `AmbiguousTemplateSet` (R306): raised by the check after the last `addInstruction`, with the text of an offending
  template (R300; which one is the model's choice, log 22). Safe: there is no machine. -/
  | ambiguousTemplateSet (table : TableIx) (text : String)
deriving DecidableEq, Repr

/-- One call of the bus capability (20_memory.md R30), with the byte it moved. -/
inductive BusCall where
  | read (address : Word) (value : Byte)
  | write (address : Word) (value : Byte)
deriving DecidableEq, Repr

/-- The bus content: (address, byte) pairs, addresses strictly rising, none equal to what an unlisted address reads as
(`Memory.wf`). -/
abbrev Memory := List Host.Cell

/-- The bus (R30, R36). `mem` is the content: what a plain RAM would hold. `replies` is what the bus answers to the
coming reads, one entry a read: `some v` answers `v`, `none` and the end of the list answer the content (log 1). `log`
holds the calls made so far, THE LATEST FIRST (log 14). -/
structure Bus where
  mem : Memory
  replies : List (Option Byte)
  log : List BusCall
deriving DecidableEq, Repr

/-- `BASE_TIMING` (00_scope.md R4, 70_reset_and_hazards.md R328): one sequence per table, indexed by opcode; an entry the
list does not have is 0. Only read by the machine (log 4). -/
structure Timing where
  t0 : List Nat
  t1 : List Nat
deriving DecidableEq, Repr

/-- The state: the Register File (R10), the countdown (R21), the fault latch (R22), the extra-cycle count the last
handler returned (41_engine.md R128, log 13), the bus, and the timing table the Processor was constructed with. -/
structure State where
  rf : RegFile
  countdown : Nat
  fault : Option Fault
  extra : Nat
  bus : Bus
  timing : Timing
deriving DecidableEq, Repr

/-- What a step, and an instruction's meaning, answers. -/
abbrev Result := Host.Outcome State Fault Refusal

/-- The default of `INIT_RF` (R27, R320): every register zero. DESIGN CHOICE of the spec (D12), log 3. -/
def RegFile.initDefault : RegFile :=
  { a := 0, f := 0, b := 0, c := 0, d := 0, e := 0, h := 0, l := 0, sp := 0, pc := 0 }

/-- Construction of a Processor (R320) with `INIT_RF`, `BASE_TIMING` and a bus: ready to fetch, no fault. -/
def State.construct (initRf : RegFile) (baseTiming : Timing) (bus : Bus) : State :=
  { rf := initRf, countdown := 0, fault := none, extra := 0, bus := bus, timing := baseTiming }

/-- The machine right after reset (R27, R320): the default `INIT_RF`, an all-zero timing table (log 4), a plain-RAM bus
with nothing listed (log 1, log 2). -/
def State.reset : State :=
  State.construct RegFile.initDefault { t0 := [], t1 := [] } { mem := [], replies := [], log := [] }

end Sys2Proof.Machine
end

