-- ==== Sys2Proof/Machine/Ops.lean ====
section
/-! DEFINITION. The named operations over the register file, memory and the bus, taking a fault, and the helpers every
handler shares (10_state.md R11 to R16, 20_memory.md R30 to R36, 41_engine.md R124, R126, R128, R133). -/

namespace Sys2Proof.Machine

/-! ## The register file -/

/-- The F setter (R11): it "masks away the low nibble unconditionally". -/
def RegFile.setF (v : Byte) (r : RegFile) : RegFile := { r with f := v &&& 0xF0#8 }

/-- The pair views, read (R12): high:low. -/
def RegFile.af (r : RegFile) : Word := mk16 r.a r.f
def RegFile.bc (r : RegFile) : Word := mk16 r.b r.c
def RegFile.de (r : RegFile) : Word := mk16 r.d r.e
def RegFile.hl (r : RegFile) : Word := mk16 r.h r.l

/-- The pair views, written (R12): the first-named byte is the high one; the low byte of AF goes through the F setter. -/
def RegFile.setAf (v : Word) (r : RegFile) : RegFile := RegFile.setF (lo8 v) { r with a := hi8 v }
def RegFile.setBc (v : Word) (r : RegFile) : RegFile := { r with b := hi8 v, c := lo8 v }
def RegFile.setDe (v : Word) (r : RegFile) : RegFile := { r with d := hi8 v, e := lo8 v }
def RegFile.setHl (v : Word) (r : RegFile) : RegFile := { r with h := hi8 v, l := lo8 v }

/-- Indexed get by 8-bit identifier (R14). -/
def RegFile.get8 (r : RegFile) : Id8 → Byte
  | .a => r.a
  | .f => r.f
  | .b => r.b
  | .c => r.c
  | .d => r.d
  | .e => r.e
  | .h => r.h
  | .l => r.l

/-- Indexed set by 8-bit identifier (R14); F through its setter (R11). -/
def RegFile.set8 (i : Id8) (v : Byte) (r : RegFile) : RegFile :=
  match i with
  | .a => { r with a := v }
  | .f => r.setF v
  | .b => { r with b := v }
  | .c => { r with c := v }
  | .d => { r with d := v }
  | .e => { r with e := v }
  | .h => { r with h := v }
  | .l => { r with l := v }

/-- Indexed get by 16-bit identifier (R15). -/
def RegFile.get16 (r : RegFile) : Id16 → Word
  | .af => r.af
  | .bc => r.bc
  | .de => r.de
  | .hl => r.hl
  | .sp => r.sp
  | .pc => r.pc

/-- Indexed set by 16-bit identifier (R15), pairs as R12. -/
def RegFile.set16 (i : Id16) (v : Word) (r : RegFile) : RegFile :=
  match i with
  | .af => r.setAf v
  | .bc => r.setBc v
  | .de => r.setDe v
  | .hl => r.setHl v
  | .sp => { r with sp := v }
  | .pc => { r with pc := v }

/-! ## The bus content -/

/-- The byte a plain RAM with this content holds at an address. -/
def Memory.read : Memory → Nat → Byte
  | [], _ => Config.unlistedByte
  | (k, b) :: m, a => if k = a then b else Memory.read m a

/-- The content after a byte is written, in canonical form: a byte equal to what an unlisted address reads as is not
listed. -/
def Memory.write : Memory → Nat → Byte → Memory
  | [], a, v => if v = Config.unlistedByte then [] else [(a, v)]
  | (k, b) :: m, a, v =>
    if a < k then
      if v = Config.unlistedByte then (k, b) :: m else (a, v) :: (k, b) :: m
    else if a = k then
      if v = Config.unlistedByte then m else (a, v) :: m
    else (k, b) :: Memory.write m a v

/-- The canonical form: every address is one of the 2^16 (R31), addresses strictly rise, and no listed byte is the one
an unlisted address reads as. -/
def Memory.wf : Memory → Bool
  | [] => true
  | (k, b) :: m =>
    decide (k < 65536) && decide (b ≠ Config.unlistedByte) && m.all (fun c => decide (k < c.1)) && Memory.wf m

/-! ## State updates -/

/-- The state with another register file. -/
def State.setRf (r : RegFile) (s : State) : State := { s with rf := r }

/-- The state with its register file changed by a primitive (R20). -/
def State.withRf (g : RegFile → RegFile) (s : State) : State := { s with rf := g s.rf }

/-- `PC <- v` (00_scope.md R6). -/
def State.setPc (v : Word) (s : State) : State := { s with rf := { s.rf with pc := v } }

/-- `SP <- v` (00_scope.md R6). -/
def State.setSp (v : Word) (s : State) : State := { s with rf := { s.rf with sp := v } }

/-- The end of a handler that reports `n` extra cycles (R128); a handler that does not say reports 0 (00_scope.md R6). -/
def ret (n : Nat) (s : State) : Result := .next { s with extra := n }

/-- Taking a fault (R133, R310), the one operation for every kind: the record goes into the fault latch. Nothing else
changes: PC is saved nowhere, nothing is pushed, no register is written, no bus call is made, and the countdown is 0
because the tick that fetched the opcode found it 0. No instruction returns from a fault (R311). -/
def raise (k : Fault) (s : State) : Result := .next { s with fault := some k }

/-! ## The bus -/

/-- What the bus answers to the next read, of address `a` (R36): its reply where it has one, else the content. -/
def Bus.answer (u : Bus) (a : Word) : Byte :=
  match u.replies with
  | some v :: _ => v
  | _ => Memory.read u.mem a.toNat

/-- `MemRead(a, 1)`: one call of `readByte` (R30), which takes one reply and is recorded (R36). -/
def State.memRead (a : Word) (s : State) : Byte × State :=
  (s.bus.answer a,
    { s with bus := { s.bus with replies := s.bus.replies.tail, log := .read a (s.bus.answer a) :: s.bus.log } })

/-- `MemWrite(a, 1, v)`: one call of `writeByte` (R30), recorded (R36); the content takes the byte. -/
def State.memWrite (a : Word) (v : Byte) (s : State) : State :=
  { s with bus := { s.bus with mem := Memory.write s.bus.mem a.toNat v, log := .write a v :: s.bus.log } }

/-! ## Operand fetch and the stack -/

/-- `Fetch8()` (R124): the byte at PC; PC moves past it, modulo 2^16. -/
def State.fetch8 (s : State) : Byte × State :=
  let r := s.memRead s.rf.pc
  (r.1, r.2.setPc (s.rf.pc + 1))

/-- `Fetch16()` (R124): low byte first. -/
def State.fetch16 (s : State) : Word × State :=
  let lo := s.fetch8
  let hi := lo.2.fetch8
  (mk16 hi.1 lo.1, hi.2)

/-- `Push16(v)` (R126): SP down, high byte; SP down, low byte. -/
def State.push16 (v : Word) (s : State) : State :=
  let s1 := s.setSp (s.rf.sp - 1)
  let s2 := s1.memWrite s1.rf.sp (hi8 v)
  let s3 := s2.setSp (s2.rf.sp - 1)
  s3.memWrite s3.rf.sp (lo8 v)

/-- `Pop16()` (R126): low byte, SP up; high byte, SP up. -/
def State.pop16 (s : State) : Word × State :=
  let lo := s.memRead s.rf.sp
  let s1 := lo.2.setSp (lo.2.rf.sp + 1)
  let hi := s1.memRead s1.rf.sp
  (mk16 hi.1 lo.1, hi.2.setSp (hi.2.rf.sp + 1))

/-- `BASE_TIMING[table][op]` (R326). -/
def Timing.base (t : Timing) (ix : TableIx) (op : Byte) : Nat :=
  match ix with
  | .t0 => t.t0.getD op.toNat 0
  | .t1 => t.t1.getD op.toNat 0

end Sys2Proof.Machine
end

