-- ==== Sys2Proof/Machine/Flags.lean ====
section
/-! DEFINITION. The flag accessors (10_state.md R13) and the arithmetic primitives (40_primitives.md R90 to R114), the
only place flags are computed: pure functions of the register file, and for operand primitives of a byte. -/

namespace Sys2Proof.Machine

/-! ## Flag accessors -/

/-- The flags, read (R13): Z(7), N(6), H(5), C(4). -/
def RegFile.flagZ (r : RegFile) : Bool := r.f.getLsbD 7
def RegFile.flagN (r : RegFile) : Bool := r.f.getLsbD 6
def RegFile.flagH (r : RegFile) : Bool := r.f.getLsbD 5
def RegFile.flagC (r : RegFile) : Bool := r.f.getLsbD 4

/-- F with the bits of `m` replaced by `v`, through the F setter (R11, R13): the other bits stay, bits 3..0 are 0. -/
def RegFile.setFlag (m : Byte) (v : Bool) (r : RegFile) : RegFile :=
  r.setF (if v then r.f ||| m else r.f &&& ~~~m)

/-- The flags, written one at a time (R13). -/
def RegFile.setZ (v : Bool) (r : RegFile) : RegFile := r.setFlag 0x80#8 v
def RegFile.setN (v : Bool) (r : RegFile) : RegFile := r.setFlag 0x40#8 v
def RegFile.setH (v : Bool) (r : RegFile) : RegFile := r.setFlag 0x20#8 v
def RegFile.setC (v : Bool) (r : RegFile) : RegFile := r.setFlag 0x10#8 v

/-- All four flags written. -/
def RegFile.setZNHC (z n h c : Bool) (r : RegFile) : RegFile := (((r.setZ z).setN n).setH h).setC c

/-! ## Addition and subtraction -/

/-- `Add8(rf, v, useCarry)` (R91): the carry-in is a third addend of one addition (D14). -/
def add8 (useCarry : Bool) (v : Byte) (r : RegFile) : RegFile :=
  let cin : Nat := if useCarry && r.flagC then 1 else 0
  let sum := r.a.toNat + v.toNat + cin
  let h := decide (r.a.toNat % 16 + v.toNat % 16 + cin > 0x0F)
  let res := BitVec.ofNat 8 sum
  { r with a := res }.setZNHC (decide (res = 0#8)) false h (decide (sum > 0xFF))

/-- `Sub8(rf, v, useBorrow, writeA)` (R92): the borrow-in is a third term (D14); `writeA = false` is the compare. -/
def sub8 (useBorrow writeA : Bool) (v : Byte) (r : RegFile) : RegFile :=
  let bin : Nat := if useBorrow && r.flagC then 1 else 0
  let res := BitVec.ofInt 8 ((r.a.toNat : Int) - v.toNat - bin)
  let h := decide (r.a.toNat % 16 < v.toNat % 16 + bin)
  let c := decide (r.a.toNat < v.toNat + bin)
  { r with a := if writeA then res else r.a }.setZNHC (decide (res = 0#8)) true h c

/-- `Inc8(rf, x)` (R93): C is not written. -/
def inc8 (x : Byte) (r : RegFile) : Byte × RegFile :=
  let y := x + 1
  (y, ((r.setZ (decide (y = 0#8))).setN false).setH (decide (x.toNat % 16 = 0x0F)))

/-- `Dec8(rf, x)` (R94): C is not written. -/
def dec8 (x : Byte) (r : RegFile) : Byte × RegFile :=
  let y := x - 1
  (y, ((r.setZ (decide (y = 0#8))).setN true).setH (decide (x.toNat % 16 = 0)))

/-! ## Logic -/

/-- `And(rf, v)` (R95). -/
def and8 (v : Byte) (r : RegFile) : RegFile :=
  let res := r.a &&& v
  { r with a := res }.setZNHC (decide (res = 0#8)) false true false

/-- `Or(rf, v)` (R96). -/
def or8 (v : Byte) (r : RegFile) : RegFile :=
  let res := r.a ||| v
  { r with a := res }.setZNHC (decide (res = 0#8)) false false false

/-- `Xor(rf, v)` (R97). -/
def xor8 (v : Byte) (r : RegFile) : RegFile :=
  let res := r.a ^^^ v
  { r with a := res }.setZNHC (decide (res = 0#8)) false false false

/-- `Cpl(rf)` (R98): Z and C are not written. -/
def cpl (r : RegFile) : RegFile := ({ r with a := ~~~r.a }.setN true).setH true

/-- `TestBit(rf, b, x)` (R99): C is not written, no byte is returned. -/
def testBit (b : BitVec 3) (x : Byte) (r : RegFile) : RegFile :=
  ((r.setZ (!x.getLsbD b.toNat)).setN false).setH true

/-! ## Rotates, shifts, swap -/

/-- The flags of a rotate or shift (R100 to R106): C the bit shifted out, N and H 0, Z by the result and `setZ`. -/
def shiftFlags (out : Bool) (y : Byte) (setZ : Bool) (r : RegFile) : RegFile :=
  r.setZNHC (decide (y = 0#8) && setZ) false false out

/-- A bit as a byte: 1 or 0 (R5). -/
def bitByte (v : Bool) : Byte := if v then 1#8 else 0#8

/-- `Rlc(rf, x, setZ)` (R100): bit 7 to bit 0 and to C. -/
def rlc (setZ : Bool) (x : Byte) (r : RegFile) : Byte × RegFile :=
  let out := x.getLsbD 7
  let y := (x <<< 1) ||| bitByte out
  (y, shiftFlags out y setZ r)

/-- `Rl(rf, x, setZ)` (R101): old C enters bit 0, bit 7 goes to C. -/
def rl (setZ : Bool) (x : Byte) (r : RegFile) : Byte × RegFile :=
  let out := x.getLsbD 7
  let y := (x <<< 1) ||| bitByte r.flagC
  (y, shiftFlags out y setZ r)

/-- `Rrc(rf, x, setZ)` (R102): bit 0 to bit 7 and to C. -/
def rrc (setZ : Bool) (x : Byte) (r : RegFile) : Byte × RegFile :=
  let out := x.getLsbD 0
  let y := (x >>> 1) ||| (bitByte out <<< 7)
  (y, shiftFlags out y setZ r)

/-- `Rr(rf, x, setZ)` (R103): old C enters bit 7, bit 0 goes to C. -/
def rr (setZ : Bool) (x : Byte) (r : RegFile) : Byte × RegFile :=
  let out := x.getLsbD 0
  let y := (x >>> 1) ||| (bitByte r.flagC <<< 7)
  (y, shiftFlags out y setZ r)

/-- `Sla(rf, x)` (R104): bit 0 becomes 0. -/
def sla (x : Byte) (r : RegFile) : Byte × RegFile :=
  let out := x.getLsbD 7
  let y := x <<< 1
  (y, shiftFlags out y true r)

/-- `Sra(rf, x)` (R105): bit 7 keeps its value. -/
def sra (x : Byte) (r : RegFile) : Byte × RegFile :=
  let out := x.getLsbD 0
  let y := (x >>> 1) ||| (x &&& 0x80#8)
  (y, shiftFlags out y true r)

/-- `Srl(rf, x)` (R106): bit 7 becomes 0. -/
def srl (x : Byte) (r : RegFile) : Byte × RegFile :=
  let out := x.getLsbD 0
  let y := x >>> 1
  (y, shiftFlags out y true r)

/-- `Swap(rf, x)` (R107): the nibbles exchanged, C 0. -/
def swap (x : Byte) (r : RegFile) : Byte × RegFile :=
  let y := (x <<< 4) ||| (x >>> 4)
  (y, shiftFlags false y true r)

/-! ## Decimal adjust -/

/-- `Daa(rf)` (R108, D15): N is not written; C is never cleared. -/
def daa (r : RegFile) : RegFile :=
  let low := r.flagH || (!r.flagN && decide (r.a.toNat % 16 > 0x09))
  let high := r.flagC || (!r.flagN && decide (r.a.toNat > 0x99))
  let adj : Byte := (if low then 0x06#8 else 0#8) ||| (if high then 0x60#8 else 0#8)
  let res := if r.flagN then r.a - adj else r.a + adj
  (({ r with a := res }.setZ (decide (res = 0#8))).setH false).setC high

/-! ## 16-bit and remaining primitives -/

/-- `Add16(rf, v)` (R109): Z is not written. -/
def add16 (v : Word) (r : RegFile) : RegFile :=
  let sum := r.hl.toNat + v.toNat
  let h := decide (r.hl.toNat % 4096 + v.toNat % 4096 > 0x0FFF)
  (((r.setHl (BitVec.ofNat 16 sum)).setN false).setH h).setC (decide (sum > 0xFFFF))

/-- `AddSpE8(rf, e)` (R110): SP plus the signed displacement; H and C from the unsigned low-byte sum; Z and N 0. -/
def addSpDisp (e : Byte) (r : RegFile) : Word × RegFile :=
  let h := decide (r.sp.toNat % 16 + e.toNat % 16 > 0x0F)
  let c := decide (r.sp.toNat % 256 + e.toNat > 0xFF)
  (addDisp r.sp e, r.setZNHC false false h c)

/-- `Scf(rf)` (R111). -/
def scf (r : RegFile) : RegFile := ((r.setN false).setH false).setC true

/-- `Ccf(rf)` (R112). -/
def ccf (r : RegFile) : RegFile := ((r.setN false).setH false).setC (!r.flagC)

/-- `ResBit(b, x) = x & ~(1 << b)` (R113): no flag. -/
def resBit (b : BitVec 3) (x : Byte) : Byte := x &&& ~~~(1#8 <<< b.toNat)

/-- `SetBit(b, x) = x | (1 << b)` (R113): no flag. -/
def setBit (b : BitVec 3) (x : Byte) : Byte := x ||| (1#8 <<< b.toNat)

/-- `Inc16(x)` (R114): no flag. -/
def inc16 (x : Word) : Word := x + 1

/-- `Dec16(x)` (R114): no flag. -/
def dec16 (x : Word) : Word := x - 1

end Sys2Proof.Machine
end

