-- ==== Sys2Proof/Machine/Operands.lean ====
section
/-! DEFINITION. The operand forms: the `r8` operand, the two pair fields, the condition, and the three ways an
instruction runs a primitive (on a register, on the byte at HL, on an immediate) (41_engine.md R125, R127;
30_encoding.md R69 to R72). -/

namespace Sys2Proof.Machine

/-- `r8[i]` read (R125): a register, or for index 6 one bus read at HL. -/
def State.readR8 (i : R8) (s : State) : Byte × State :=
  match i with
  | .b => (s.rf.get8 .b, s)
  | .c => (s.rf.get8 .c, s)
  | .d => (s.rf.get8 .d, s)
  | .e => (s.rf.get8 .e, s)
  | .h => (s.rf.get8 .h, s)
  | .l => (s.rf.get8 .l, s)
  | .indHl => s.memRead s.rf.hl
  | .a => (s.rf.get8 .a, s)

/-- `r8[i] <- v` (R125): a register, or for index 6 one bus write at HL. -/
def State.writeR8 (i : R8) (v : Byte) (s : State) : State :=
  match i with
  | .b => s.withRf (RegFile.set8 .b v)
  | .c => s.withRf (RegFile.set8 .c v)
  | .d => s.withRf (RegFile.set8 .d v)
  | .e => s.withRf (RegFile.set8 .e v)
  | .h => s.withRf (RegFile.set8 .h v)
  | .l => s.withRf (RegFile.set8 .l v)
  | .indHl => s.memWrite s.rf.hl v
  | .a => s.withRf (RegFile.set8 .a v)

/-- `r16[p]` (R71). -/
def r16Id : R16 → Id16
  | .bc => .bc
  | .de => .de
  | .hl => .hl
  | .sp => .sp

/-- `r16stk[p]` (R71). -/
def r16StkId : R16Stk → Id16
  | .bc => .bc
  | .de => .de
  | .hl => .hl
  | .af => .af

/-- `Cond(c)` (R127). -/
def RegFile.cond (r : RegFile) : Cond → Bool
  | .nz => !r.flagZ
  | .z => r.flagZ
  | .nc => !r.flagC
  | .c => r.flagC

/-! ## Running a primitive on an operand -/

/-- An accumulator primitive on `r8[i]` (R90). -/
def accR8 (g : Byte → RegFile → RegFile) (i : R8) (s : State) : Result :=
  let x := s.readR8 i
  ret 0 (x.2.withRf (g x.1))

/-- An accumulator primitive on the byte at HL: one bus read (R46). -/
def accIndHl (g : Byte → RegFile → RegFile) (s : State) : Result :=
  let x := s.memRead s.rf.hl
  ret 0 (x.2.withRf (g x.1))

/-- An accumulator primitive on an immediate, already fetched. -/
def accD8 (g : Byte → RegFile → RegFile) (v : Byte) (s : State) : Result :=
  ret 0 (s.withRf (g v))

/-- An operand primitive on `r8[i]`, its byte written back (R90). -/
def modR8 (g : Byte → RegFile → Byte × RegFile) (i : R8) (s : State) : Result :=
  let x := s.readR8 i
  let y := g x.1 x.2.rf
  ret 0 ((x.2.setRf y.2).writeR8 i y.1)

/-- An operand primitive on the byte at HL: one bus read, one bus write, at the same address (R35, R46). -/
def modIndHl (g : Byte → RegFile → Byte × RegFile) (s : State) : Result :=
  let x := s.memRead s.rf.hl
  let y := g x.1 x.2.rf
  ret 0 ((x.2.setRf y.2).memWrite s.rf.hl y.1)

/-- An operand primitive on A, its byte written back to A (R230 to R233). -/
def modA (g : Byte → RegFile → Byte × RegFile) (s : State) : Result :=
  let y := g s.rf.a s.rf
  ret 0 (s.setRf (y.2.set8 .a y.1))

/-- `A <- MemRead(addr, 1)`. -/
def loadA (addr : Word) (s : State) : Result :=
  let x := s.memRead addr
  ret 0 (x.2.withRf (RegFile.set8 .a x.1))

/-- `MemWrite(addr, 1, A)`. -/
def storeA (addr : Word) (s : State) : Result := ret 0 (s.memWrite addr s.rf.a)

end Sys2Proof.Machine
end

