-- ==== Sys2Proof/Machine/Alu16.lean ====
section
/-! DEFINITION. The 16-bit arithmetic instructions (45_alu16.md R220 to R223). -/

namespace Sys2Proof.Machine

/-- `ADD HL,rr` (R220): the operand is read before HL is written. -/
def execAddHlRr (p : R16) (s : State) : Result := ret 0 (s.withRf (add16 (s.rf.get16 (r16Id p))))

/-- `INC rr` (R221): no flag. -/
def execIncRr (p : R16) (s : State) : Result :=
  ret 0 (s.withRf (RegFile.set16 (r16Id p) (inc16 (s.rf.get16 (r16Id p)))))

/-- `DEC rr` (R222): no flag. -/
def execDecRr (p : R16) (s : State) : Result :=
  ret 0 (s.withRf (RegFile.set16 (r16Id p) (dec16 (s.rf.get16 (r16Id p)))))

/-- `ADD SP,e8` (R223): `AddSpE8` (R110), the sum to SP. -/
def execAddSpE8 (e : Byte) (s : State) : Result :=
  let w := addSpDisp e s.rf
  ret 0 (s.setRf (w.2.set16 .sp w.1))

end Sys2Proof.Machine
end

