-- ==== Sys2Proof/Machine/Alu8.lean ====
section
/-! DEFINITION. The 8-bit arithmetic and logic instructions (44_alu8.md R180 to R211): each primitive of Machine/Flags.lean on a
register, on the byte at HL, and on an immediate. -/

namespace Sys2Proof.Machine

/-- `ADD A,r` (R180). -/
def execAddAR (src : R8) (s : State) : Result := accR8 (add8 false) src s

/-- `ADD A,(HL)` (R181). -/
def execAddAIndHl (s : State) : Result := accIndHl (add8 false) s

/-- `ADD A,d8` (R182). -/
def execAddAD8 (v : Byte) (s : State) : Result := accD8 (add8 false) v s

/-- `ADC A,r` (R183). -/
def execAdcAR (src : R8) (s : State) : Result := accR8 (add8 true) src s

/-- `ADC A,(HL)` (R184). -/
def execAdcAIndHl (s : State) : Result := accIndHl (add8 true) s

/-- `ADC A,d8` (R185). -/
def execAdcAD8 (v : Byte) (s : State) : Result := accD8 (add8 true) v s

/-- `SUB r` (R186). -/
def execSubR (src : R8) (s : State) : Result := accR8 (sub8 false true) src s

/-- `SUB (HL)` (R187). -/
def execSubIndHl (s : State) : Result := accIndHl (sub8 false true) s

/-- `SUB d8` (R188). -/
def execSubD8 (v : Byte) (s : State) : Result := accD8 (sub8 false true) v s

/-- `SBC A,r` (R189). -/
def execSbcAR (src : R8) (s : State) : Result := accR8 (sub8 true true) src s

/-- `SBC A,(HL)` (R190). -/
def execSbcAIndHl (s : State) : Result := accIndHl (sub8 true true) s

/-- `SBC A,d8` (R191). -/
def execSbcAD8 (v : Byte) (s : State) : Result := accD8 (sub8 true true) v s

/-- `AND r` (R192). -/
def execAndR (src : R8) (s : State) : Result := accR8 and8 src s

/-- `AND (HL)` (R193). -/
def execAndIndHl (s : State) : Result := accIndHl and8 s

/-- `AND d8` (R194). -/
def execAndD8 (v : Byte) (s : State) : Result := accD8 and8 v s

/-- `XOR r` (R195). -/
def execXorR (src : R8) (s : State) : Result := accR8 xor8 src s

/-- `XOR (HL)` (R196). -/
def execXorIndHl (s : State) : Result := accIndHl xor8 s

/-- `XOR d8` (R197). -/
def execXorD8 (v : Byte) (s : State) : Result := accD8 xor8 v s

/-- `OR r` (R198). -/
def execOrR (src : R8) (s : State) : Result := accR8 or8 src s

/-- `OR (HL)` (R199). -/
def execOrIndHl (s : State) : Result := accIndHl or8 s

/-- `OR d8` (R200). -/
def execOrD8 (v : Byte) (s : State) : Result := accD8 or8 v s

/-- `CP r` (R201). -/
def execCpR (src : R8) (s : State) : Result := accR8 (sub8 false false) src s

/-- `CP (HL)` (R202). -/
def execCpIndHl (s : State) : Result := accIndHl (sub8 false false) s

/-- `CP d8` (R203). -/
def execCpD8 (v : Byte) (s : State) : Result := accD8 (sub8 false false) v s

/-- `INC r` (R204). -/
def execIncR (dst : R8) (s : State) : Result := modR8 inc8 dst s

/-- `INC (HL)` (R205). -/
def execIncIndHl (s : State) : Result := modIndHl inc8 s

/-- `DEC r` (R206). -/
def execDecR (dst : R8) (s : State) : Result := modR8 dec8 dst s

/-- `DEC (HL)` (R207). -/
def execDecIndHl (s : State) : Result := modIndHl dec8 s

/-- `DAA` (R208). -/
def execDaa (s : State) : Result := ret 0 (s.withRf daa)

/-- `CPL` (R209). -/
def execCpl (s : State) : Result := ret 0 (s.withRf cpl)

/-- `SCF` (R210). -/
def execScf (s : State) : Result := ret 0 (s.withRf scf)

/-- `CCF` (R211). -/
def execCcf (s : State) : Result := ret 0 (s.withRf ccf)

end Sys2Proof.Machine
end

