-- ==== Sys2Proof/Machine/Control.lean ====
section
/-! DEFINITION. The control-transfer instructions (47_control.md R270 to R280). PC holds the address of the next instruction when a
meaning runs: the opcode and the operand bytes have been fetched (R123, R324). -/

namespace Sys2Proof.Machine

/-- `JP a16` (R270). -/
def execJpA16 (a : Word) (s : State) : Result := ret 0 (s.setPc a)

/-- `JP cc,a16` (R271). -/
def execJpCcA16 (cc : Cond) (a : Word) (s : State) : Result :=
  if s.rf.cond cc then ret Config.extraJp (s.setPc a) else ret 0 s

/-- `JP HL` (R272): the target is HL itself; no byte is read. -/
def execJpHl (s : State) : Result := ret 0 (s.setPc s.rf.hl)

/-- `JR e8` (R273). -/
def execJrE8 (e : Byte) (s : State) : Result := ret 0 (s.setPc (addDisp s.rf.pc e))

/-- `JR cc,e8` (R274). -/
def execJrCcE8 (cc : Cond) (e : Byte) (s : State) : Result :=
  if s.rf.cond cc then ret Config.extraJr (s.setPc (addDisp s.rf.pc e)) else ret 0 s

/-- `CALL a16` (R275): the pushed value is the address of the next instruction. -/
def execCallA16 (a : Word) (s : State) : Result := ret 0 ((s.push16 s.rf.pc).setPc a)

/-- `CALL cc,a16` (R276). -/
def execCallCcA16 (cc : Cond) (a : Word) (s : State) : Result :=
  if s.rf.cond cc then ret Config.extraCall ((s.push16 s.rf.pc).setPc a) else ret 0 s

/-- `RET` (R277). -/
def execRet (s : State) : Result := ret 0 (s.pop16.2.setPc s.pop16.1)

/-- `RET cc` (R278): not taken, it reads nothing. -/
def execRetCc (cc : Cond) (s : State) : Result :=
  if s.rf.cond cc then ret Config.extraRet (s.pop16.2.setPc s.pop16.1) else ret 0 s

/-- `RETI` (R279, D9): deliberately stubbed; nothing is popped. -/
def execReti (s : State) : Result := raise (.unimplementedOpcode .t0 0xD9#8) s

/-- `RST t` (R280): a one-byte call of `t * 8`. -/
def execRstT (t : BitVec 3) (s : State) : Result :=
  ret 0 ((s.push16 s.rf.pc).setPc (BitVec.ofNat 16 (t.toNat * 8)))

end Sys2Proof.Machine
end

