-- ==== Sys2Proof/Machine/Load16.lean ====
section
/-! DEFINITION. The 16-bit load and stack instructions (43_load16_stack.md R170 to R175). -/

namespace Sys2Proof.Machine

/-- `LD rr,d16` (R170). -/
def execLdRrD16 (p : R16) (v : Word) (s : State) : Result := ret 0 (s.withRf (RegFile.set16 (r16Id p) v))

/-- `LD (a16),SP` (R171): low byte at `a`, then high byte at `a + 1` modulo 2^16. -/
def execLdIndA16Sp (a : Word) (s : State) : Result :=
  ret 0 ((s.memWrite a (lo8 s.rf.sp)).memWrite (a + 1) (hi8 s.rf.sp))

/-- `LD SP,HL` (R172). -/
def execLdSpHl (s : State) : Result := ret 0 (s.setSp s.rf.hl)

/-- `LD HL,SP+e8` (R173): `AddSpE8` (R110), the sum to HL. -/
def execLdHlSpE8 (e : Byte) (s : State) : Result :=
  let w := addSpDisp e s.rf
  ret 0 (s.setRf (w.2.set16 .hl w.1))

/-- `PUSH rr` (R174). -/
def execPushRr (p : R16Stk) (s : State) : Result := ret 0 (s.push16 (s.rf.get16 (r16StkId p)))

/-- `POP rr` (R175): for AF the low byte goes through the F setter (R11). -/
def execPopRr (p : R16Stk) (s : State) : Result :=
  let v := s.pop16
  ret 0 (v.2.withRf (RegFile.set16 (r16StkId p) v.1))

end Sys2Proof.Machine
end

