-- ==== Sys2Proof/Machine/Load8.lean ====
section
/-! DEFINITION. The 8-bit load instructions (42_load8.md R140 to R158). No load changes a flag or faults. An operand byte is fetched
before the meaning runs (Machine/Engine.lean), so it is an argument here (log 15). -/

namespace Sys2Proof.Machine

/-- `LD r,r'` (R140). -/
def execLdRR (dst src : R8) (s : State) : Result :=
  let x := s.readR8 src
  ret 0 (x.2.writeR8 dst x.1)

/-- `LD r,d8` (R141). -/
def execLdRD8 (dst : R8) (v : Byte) (s : State) : Result := ret 0 (s.writeR8 dst v)

/-- `LD r,(HL)` (R142): the address is HL before the write. -/
def execLdRIndHl (dst : R8) (s : State) : Result :=
  let x := s.memRead s.rf.hl
  ret 0 (x.2.writeR8 dst x.1)

/-- `LD (HL),r` (R143). -/
def execLdIndHlR (src : R8) (s : State) : Result :=
  let x := s.readR8 src
  ret 0 (x.2.memWrite s.rf.hl x.1)

/-- `LD (HL),d8` (R144). -/
def execLdIndHlD8 (v : Byte) (s : State) : Result := ret 0 (s.memWrite s.rf.hl v)

/-- `LD A,(BC)` (R145). -/
def execLdAIndBc (s : State) : Result := loadA s.rf.bc s

/-- `LD A,(DE)` (R146). -/
def execLdAIndDe (s : State) : Result := loadA s.rf.de s

/-- `LD (BC),A` (R147). -/
def execLdIndBcA (s : State) : Result := storeA s.rf.bc s

/-- `LD (DE),A` (R148). -/
def execLdIndDeA (s : State) : Result := storeA s.rf.de s

/-- `LD A,(HL+)` (R149): the read is at the old HL; the increment is `Inc16` (R114). -/
def execLdAIndHlInc (s : State) : Result :=
  let x := s.memRead s.rf.hl
  ret 0 ((x.2.withRf (RegFile.set8 .a x.1)).withRf (RegFile.set16 .hl (inc16 s.rf.hl)))

/-- `LD A,(HL-)` (R150): the read is at the old HL; the decrement is `Dec16` (R114). -/
def execLdAIndHlDec (s : State) : Result :=
  let x := s.memRead s.rf.hl
  ret 0 ((x.2.withRf (RegFile.set8 .a x.1)).withRf (RegFile.set16 .hl (dec16 s.rf.hl)))

/-- `LD (HL+),A` (R151): the write is at the old HL. -/
def execLdIndHlIncA (s : State) : Result :=
  ret 0 ((s.memWrite s.rf.hl s.rf.a).withRf (RegFile.set16 .hl (inc16 s.rf.hl)))

/-- `LD (HL-),A` (R152): the write is at the old HL. -/
def execLdIndHlDecA (s : State) : Result :=
  ret 0 ((s.memWrite s.rf.hl s.rf.a).withRf (RegFile.set16 .hl (dec16 s.rf.hl)))

/-- `LD A,(a16)` (R153). -/
def execLdAIndA16 (a : Word) (s : State) : Result := loadA a s

/-- `LD (a16),A` (R154). -/
def execLdIndA16A (a : Word) (s : State) : Result := storeA a s

/-- `LDH A,(a8)` (R155). -/
def execLdhAIndA8 (n : Byte) (s : State) : Result := loadA (highPage n) s

/-- `LDH (a8),A` (R156). -/
def execLdhIndA8A (n : Byte) (s : State) : Result := storeA (highPage n) s

/-- `LD A,(C)` (R157): C is the register. -/
def execLdAIndC (s : State) : Result := loadA (highPage s.rf.c) s

/-- `LD (C),A` (R158): C is the register. -/
def execLdIndCA (s : State) : Result := storeA (highPage s.rf.c) s

end Sys2Proof.Machine
end

