-- ==== Sys2Proof/Machine/Rotate.lean ====
section
/-! DEFINITION. The rotate, shift, swap and bit instructions (46_rotate_shift_bit.md R230 to R255). -/

namespace Sys2Proof.Machine

/-- `RLCA` (R230): `setZ = false`, so Z becomes 0. -/
def execRlca (s : State) : Result := modA (rlc false) s

/-- `RRCA` (R231): `setZ = false`, so Z becomes 0. -/
def execRrca (s : State) : Result := modA (rrc false) s

/-- `RLA` (R232): `setZ = false`, so Z becomes 0. -/
def execRla (s : State) : Result := modA (rl false) s

/-- `RRA` (R233): `setZ = false`, so Z becomes 0. -/
def execRra (s : State) : Result := modA (rr false) s

/-- `RLC r` (R234). -/
def execRlcR (src : R8) (s : State) : Result := modR8 (rlc true) src s

/-- `RLC (HL)` (R235). -/
def execRlcIndHl (s : State) : Result := modIndHl (rlc true) s

/-- `RRC r` (R236). -/
def execRrcR (src : R8) (s : State) : Result := modR8 (rrc true) src s

/-- `RRC (HL)` (R237). -/
def execRrcIndHl (s : State) : Result := modIndHl (rrc true) s

/-- `RL r` (R238). -/
def execRlR (src : R8) (s : State) : Result := modR8 (rl true) src s

/-- `RL (HL)` (R239). -/
def execRlIndHl (s : State) : Result := modIndHl (rl true) s

/-- `RR r` (R240). -/
def execRrR (src : R8) (s : State) : Result := modR8 (rr true) src s

/-- `RR (HL)` (R241). -/
def execRrIndHl (s : State) : Result := modIndHl (rr true) s

/-- `SLA r` (R242). -/
def execSlaR (src : R8) (s : State) : Result := modR8 sla src s

/-- `SLA (HL)` (R243). -/
def execSlaIndHl (s : State) : Result := modIndHl sla s

/-- `SRA r` (R244). -/
def execSraR (src : R8) (s : State) : Result := modR8 sra src s

/-- `SRA (HL)` (R245). -/
def execSraIndHl (s : State) : Result := modIndHl sra s

/-- `SWAP r` (R246). -/
def execSwapR (src : R8) (s : State) : Result := modR8 swap src s

/-- `SWAP (HL)` (R247). -/
def execSwapIndHl (s : State) : Result := modIndHl swap s

/-- `SRL r` (R248). -/
def execSrlR (src : R8) (s : State) : Result := modR8 srl src s

/-- `SRL (HL)` (R249). -/
def execSrlIndHl (s : State) : Result := modIndHl srl s

/-- `BIT b,r` (R250): the register is not written. -/
def execBitR (b : BitVec 3) (src : R8) (s : State) : Result := accR8 (testBit b) src s

/-- `BIT b,(HL)` (R251): one bus read and no write (R37). -/
def execBitIndHl (b : BitVec 3) (s : State) : Result := accIndHl (testBit b) s

/-- `RES b,r` (R252): no flag. -/
def execResR (b : BitVec 3) (src : R8) (s : State) : Result := modR8 (fun x r => (resBit b x, r)) src s

/-- `RES b,(HL)` (R253): the write happens even when the bit was 0. -/
def execResIndHl (b : BitVec 3) (s : State) : Result := modIndHl (fun x r => (resBit b x, r)) s

/-- `SET b,r` (R254): no flag. -/
def execSetR (b : BitVec 3) (src : R8) (s : State) : Result := modR8 (fun x r => (setBit b x, r)) src s

/-- `SET b,(HL)` (R255): the write happens even when the bit was 1. -/
def execSetIndHl (b : BitVec 3) (s : State) : Result := modIndHl (fun x r => (setBit b x, r)) s

end Sys2Proof.Machine
end

