-- ==== Sys2Proof/Machine/System.lean ====
section
/-! DEFINITION. NOP and the faulting encodings (48_system.md R290 to R296). A faulting handler's first and only action is the raise:
it reads and writes no register and makes no bus access. -/

namespace Sys2Proof.Machine

/-- `NOP` (R290): "intentionally treats ... as a no-op". -/
def execNop (s : State) : Result := ret 0 s

/-- `STOP` (R291): the byte after the opcode is not fetched. -/
def execStop (s : State) : Result := raise (.unimplementedOpcode .t0 0x10#8) s

/-- `HALT` (R292): the machine does not wait. -/
def execHalt (s : State) : Result := raise (.unimplementedOpcode .t0 0x76#8) s

/-- `DI` (R293): D9. -/
def execDi (s : State) : Result := raise (.unimplementedOpcode .t0 0xF3#8) s

/-- `EI` (R294): D9. -/
def execEi (s : State) : Result := raise (.unimplementedOpcode .t0 0xFB#8) s

/-- `PREFIX CB` (R295): reached only by a direct `Execute` (D8). -/
def execPrefixCb (s : State) : Result := raise (.unimplementedOpcode .t0 0xCB#8) s

/-- `ILLEGAL_D3` (R296, D7). -/
def execIllegalD3 (s : State) : Result := raise (.unimplementedOpcode .t0 0xD3#8) s

/-- `ILLEGAL_DB` (R296, D7). -/
def execIllegalDB (s : State) : Result := raise (.unimplementedOpcode .t0 0xDB#8) s

/-- `ILLEGAL_DD` (R296, D7). -/
def execIllegalDD (s : State) : Result := raise (.unimplementedOpcode .t0 0xDD#8) s

/-- `ILLEGAL_E3` (R296, D7). -/
def execIllegalE3 (s : State) : Result := raise (.unimplementedOpcode .t0 0xE3#8) s

/-- `ILLEGAL_E4` (R296, D7). -/
def execIllegalE4 (s : State) : Result := raise (.unimplementedOpcode .t0 0xE4#8) s

/-- `ILLEGAL_EB` (R296, D7). -/
def execIllegalEB (s : State) : Result := raise (.unimplementedOpcode .t0 0xEB#8) s

/-- `ILLEGAL_EC` (R296, D7). -/
def execIllegalEC (s : State) : Result := raise (.unimplementedOpcode .t0 0xEC#8) s

/-- `ILLEGAL_ED` (R296, D7). -/
def execIllegalED (s : State) : Result := raise (.unimplementedOpcode .t0 0xED#8) s

/-- `ILLEGAL_F4` (R296, D7). -/
def execIllegalF4 (s : State) : Result := raise (.unimplementedOpcode .t0 0xF4#8) s

/-- `ILLEGAL_FC` (R296, D7). -/
def execIllegalFC (s : State) : Result := raise (.unimplementedOpcode .t0 0xFC#8) s

/-- `ILLEGAL_FD` (R296, D7). -/
def execIllegalFD (s : State) : Result := raise (.unimplementedOpcode .t0 0xFD#8) s

end Sys2Proof.Machine
end

