-- ==== Sys2Proof/Machine/Dispatch.lean ====
section
/-! DEFINITION. Which meaning each instruction has: one arm per constructor. -/

namespace Sys2Proof.Machine

def exec (i : Instr) (s : State) : Host.Outcome State Fault Refusal :=
  match i with
  | .nop => Sys2Proof.Machine.execNop s
  | .ldRrD16 p v => Sys2Proof.Machine.execLdRrD16 p v s
  | .ldIndBcA => Sys2Proof.Machine.execLdIndBcA s
  | .incRr p => Sys2Proof.Machine.execIncRr p s
  | .incR dst => Sys2Proof.Machine.execIncR dst s
  | .decR dst => Sys2Proof.Machine.execDecR dst s
  | .ldRD8 dst v => Sys2Proof.Machine.execLdRD8 dst v s
  | .rlca => Sys2Proof.Machine.execRlca s
  | .ldIndA16Sp a => Sys2Proof.Machine.execLdIndA16Sp a s
  | .addHlRr p => Sys2Proof.Machine.execAddHlRr p s
  | .ldAIndBc => Sys2Proof.Machine.execLdAIndBc s
  | .decRr p => Sys2Proof.Machine.execDecRr p s
  | .rrca => Sys2Proof.Machine.execRrca s
  | .stop => Sys2Proof.Machine.execStop s
  | .ldIndDeA => Sys2Proof.Machine.execLdIndDeA s
  | .rla => Sys2Proof.Machine.execRla s
  | .jrE8 e => Sys2Proof.Machine.execJrE8 e s
  | .ldAIndDe => Sys2Proof.Machine.execLdAIndDe s
  | .rra => Sys2Proof.Machine.execRra s
  | .jrCcE8 cc e => Sys2Proof.Machine.execJrCcE8 cc e s
  | .ldIndHlIncA => Sys2Proof.Machine.execLdIndHlIncA s
  | .daa => Sys2Proof.Machine.execDaa s
  | .ldAIndHlInc => Sys2Proof.Machine.execLdAIndHlInc s
  | .cpl => Sys2Proof.Machine.execCpl s
  | .ldIndHlDecA => Sys2Proof.Machine.execLdIndHlDecA s
  | .incIndHl => Sys2Proof.Machine.execIncIndHl s
  | .decIndHl => Sys2Proof.Machine.execDecIndHl s
  | .ldIndHlD8 v => Sys2Proof.Machine.execLdIndHlD8 v s
  | .scf => Sys2Proof.Machine.execScf s
  | .ldAIndHlDec => Sys2Proof.Machine.execLdAIndHlDec s
  | .ccf => Sys2Proof.Machine.execCcf s
  | .ldRR dst src => Sys2Proof.Machine.execLdRR dst src s
  | .ldRIndHl dst => Sys2Proof.Machine.execLdRIndHl dst s
  | .ldIndHlR src => Sys2Proof.Machine.execLdIndHlR src s
  | .halt => Sys2Proof.Machine.execHalt s
  | .addAR src => Sys2Proof.Machine.execAddAR src s
  | .addAIndHl => Sys2Proof.Machine.execAddAIndHl s
  | .adcAR src => Sys2Proof.Machine.execAdcAR src s
  | .adcAIndHl => Sys2Proof.Machine.execAdcAIndHl s
  | .subR src => Sys2Proof.Machine.execSubR src s
  | .subIndHl => Sys2Proof.Machine.execSubIndHl s
  | .sbcAR src => Sys2Proof.Machine.execSbcAR src s
  | .sbcAIndHl => Sys2Proof.Machine.execSbcAIndHl s
  | .andR src => Sys2Proof.Machine.execAndR src s
  | .andIndHl => Sys2Proof.Machine.execAndIndHl s
  | .xorR src => Sys2Proof.Machine.execXorR src s
  | .xorIndHl => Sys2Proof.Machine.execXorIndHl s
  | .orR src => Sys2Proof.Machine.execOrR src s
  | .orIndHl => Sys2Proof.Machine.execOrIndHl s
  | .cpR src => Sys2Proof.Machine.execCpR src s
  | .cpIndHl => Sys2Proof.Machine.execCpIndHl s
  | .retCc cc => Sys2Proof.Machine.execRetCc cc s
  | .popRr p => Sys2Proof.Machine.execPopRr p s
  | .jpCcA16 cc a => Sys2Proof.Machine.execJpCcA16 cc a s
  | .jpA16 a => Sys2Proof.Machine.execJpA16 a s
  | .callCcA16 cc a => Sys2Proof.Machine.execCallCcA16 cc a s
  | .pushRr p => Sys2Proof.Machine.execPushRr p s
  | .addAD8 v => Sys2Proof.Machine.execAddAD8 v s
  | .rstT t => Sys2Proof.Machine.execRstT t s
  | .ret => Sys2Proof.Machine.execRet s
  | .prefixCb => Sys2Proof.Machine.execPrefixCb s
  | .callA16 a => Sys2Proof.Machine.execCallA16 a s
  | .adcAD8 v => Sys2Proof.Machine.execAdcAD8 v s
  | .illegalD3 => Sys2Proof.Machine.execIllegalD3 s
  | .subD8 v => Sys2Proof.Machine.execSubD8 v s
  | .reti => Sys2Proof.Machine.execReti s
  | .illegalDB => Sys2Proof.Machine.execIllegalDB s
  | .illegalDD => Sys2Proof.Machine.execIllegalDD s
  | .sbcAD8 v => Sys2Proof.Machine.execSbcAD8 v s
  | .ldhIndA8A n => Sys2Proof.Machine.execLdhIndA8A n s
  | .ldIndCA => Sys2Proof.Machine.execLdIndCA s
  | .illegalE3 => Sys2Proof.Machine.execIllegalE3 s
  | .illegalE4 => Sys2Proof.Machine.execIllegalE4 s
  | .andD8 v => Sys2Proof.Machine.execAndD8 v s
  | .addSpE8 e => Sys2Proof.Machine.execAddSpE8 e s
  | .jpHl => Sys2Proof.Machine.execJpHl s
  | .ldIndA16A a => Sys2Proof.Machine.execLdIndA16A a s
  | .illegalEB => Sys2Proof.Machine.execIllegalEB s
  | .illegalEC => Sys2Proof.Machine.execIllegalEC s
  | .illegalED => Sys2Proof.Machine.execIllegalED s
  | .xorD8 v => Sys2Proof.Machine.execXorD8 v s
  | .ldhAIndA8 n => Sys2Proof.Machine.execLdhAIndA8 n s
  | .ldAIndC => Sys2Proof.Machine.execLdAIndC s
  | .di => Sys2Proof.Machine.execDi s
  | .illegalF4 => Sys2Proof.Machine.execIllegalF4 s
  | .orD8 v => Sys2Proof.Machine.execOrD8 v s
  | .ldHlSpE8 e => Sys2Proof.Machine.execLdHlSpE8 e s
  | .ldSpHl => Sys2Proof.Machine.execLdSpHl s
  | .ldAIndA16 a => Sys2Proof.Machine.execLdAIndA16 a s
  | .ei => Sys2Proof.Machine.execEi s
  | .illegalFC => Sys2Proof.Machine.execIllegalFC s
  | .illegalFD => Sys2Proof.Machine.execIllegalFD s
  | .cpD8 v => Sys2Proof.Machine.execCpD8 v s
  | .rlcR src => Sys2Proof.Machine.execRlcR src s
  | .rlcIndHl => Sys2Proof.Machine.execRlcIndHl s
  | .rrcR src => Sys2Proof.Machine.execRrcR src s
  | .rrcIndHl => Sys2Proof.Machine.execRrcIndHl s
  | .rlR src => Sys2Proof.Machine.execRlR src s
  | .rlIndHl => Sys2Proof.Machine.execRlIndHl s
  | .rrR src => Sys2Proof.Machine.execRrR src s
  | .rrIndHl => Sys2Proof.Machine.execRrIndHl s
  | .slaR src => Sys2Proof.Machine.execSlaR src s
  | .slaIndHl => Sys2Proof.Machine.execSlaIndHl s
  | .sraR src => Sys2Proof.Machine.execSraR src s
  | .sraIndHl => Sys2Proof.Machine.execSraIndHl s
  | .swapR src => Sys2Proof.Machine.execSwapR src s
  | .swapIndHl => Sys2Proof.Machine.execSwapIndHl s
  | .srlR src => Sys2Proof.Machine.execSrlR src s
  | .srlIndHl => Sys2Proof.Machine.execSrlIndHl s
  | .bitR b src => Sys2Proof.Machine.execBitR b src s
  | .bitIndHl b => Sys2Proof.Machine.execBitIndHl b s
  | .resR b src => Sys2Proof.Machine.execResR b src s
  | .resIndHl b => Sys2Proof.Machine.execResIndHl b s
  | .setR b src => Sys2Proof.Machine.execSetR b src s
  | .setIndHl b => Sys2Proof.Machine.execSetIndHl b s

end Sys2Proof.Machine
end

