-- ==== Sys2Proof/Machine/Engine.lean ====
section
/-! DEFINITION. The engine over the canonical tables: `Execute` (41_engine.md R121), the opcode fetch and the tick loop
(R129, R131), and the placing of one instruction at the fetch address for the host's probe. -/

namespace Sys2Proof.Machine

/-- The operand bytes of a form are fetched (R123 (a), R124), then the instruction runs (log 15). -/
def runForm (f : Form) (s : State) : Result :=
  match f with
  | .op i => exec i s
  | .imm8 k =>
    let x := s.fetch8
    exec (k x.1) x.2
  | .imm16 k =>
    let x := s.fetch16
    exec (k x.1) x.2

/-- `Execute(rf, bus, opcode, table)` over the canonical tables (R121): decode, then run; no match is
`InstructionCoverageError` (R303). It fetches no opcode (R131). -/
def execute (t : TableIx) (op : Byte) (s : State) : Result :=
  match decodeOpcode t op with
  | some f => runForm f s
  | none => raise (.instructionCoverage t op) s

/-- The opcode fetch (R129, R131): one byte at PC, and one more after the prefix escape value, which is decoded in
table 1. -/
def State.fetchOpcode (s : State) : TableIx × Byte × State :=
  let x := s.fetch8
  if x.1 = Config.prefixByte then
    let y := x.2.fetch8
    (.t1, y.1, y.2)
  else (.t0, x.1, x.2)

/-- The end of a dispatch (R129): after a fault the countdown stays as it is, 0; else it becomes the cost,
`BASE_TIMING[table][op] + extra` (R326). -/
def conclude (t : TableIx) (op : Byte) : Result → Result
  | .next s =>
    match s.fault with
    | some _ => .next s
    | none => .next { s with countdown := Timing.base s.timing t op + s.extra }
  | .fault k => .fault k
  | .refused r => .refused r

/-- The ready-to-fetch branch of the tick loop (R129), which is the instruction-level step (R130) with its cost left in
the countdown. -/
def State.dispatch (s : State) : Result :=
  let x := State.fetchOpcode { s with countdown := 0 }
  conclude x.1 x.2.1 (execute x.1 x.2.1 x.2.2)

/-- One tick (R129): nothing while a fault is latched (R133); one off an active countdown; else one instruction. -/
def tick (s : State) : Result :=
  match s.fault with
  | some _ => .next s
  | none => if 0 < s.countdown then .next { s with countdown := s.countdown - 1 } else s.dispatch

/-- One instruction-level step (R130): nothing while a fault is latched (R22); else one instruction, the rest of a
countdown dropped (log 6). -/
def instructionStep (s : State) : Result :=
  match s.fault with
  | some _ => .next s
  | none => s.dispatch

/-- How many of the bytes the decoder takes (R75); all of them where it refuses. -/
def instructionLength (bytes : List Byte) : Nat :=
  match decode bytes with
  | .ok _ rest => bytes.length - rest.length
  | .reject _ => bytes.length

/-- The bus content with bytes stored at an address and on, modulo 2^16 (R32). -/
def Memory.writeBytes (m : Memory) (a : Word) : List Byte → Memory
  | [] => m
  | b :: bs => Memory.writeBytes (Memory.write m a.toNat b) (a + 1) bs

/-- The state with bytes stored at PC, the bus answering from its content while it fetches the `n` bytes of the
instruction there (R36), and no fault latched (R22). -/
def State.placeBytes (bytes : List Byte) (n : Nat) (s : State) : State :=
  { s with
    fault := none
    bus := { s.bus with
      mem := Memory.writeBytes s.bus.mem s.rf.pc bytes
      replies := List.replicate n none ++ s.bus.replies } }

end Sys2Proof.Machine
end

