-- ==== Sys2Proof/Machine/Step.lean ====
section
/-! DEFINITION. The step of the machine: the instruction-level step of 41_engine.md R130. -/

namespace Sys2Proof.Machine

/-- One step of the machine (R130, log 6). -/
def step (s : State) : Result := instructionStep s

/-- The state with one table word stored where `step` fetches its next instruction (log 16). -/
def State.withFetchWord (s : State) (nbits w : Nat) : State :=
  s.placeBytes (wordBytes nbits w) (instructionLength (wordBytes nbits w))

end Sys2Proof.Machine
end

