-- ==== Sys2Proof/Machine/PatternIndex.lean ====
section
/-! DEFINITION. The Pattern Index: the constant map and the forest, `AddPattern`, the walk `Test`, the functional
`Decode`, and the well-formedness of a table (30_encoding.md R57 to R64). The canonical machine decodes with
`Sys2Proof.mostSpecific`; this file is the construction for any table. -/

namespace Sys2Proof.Machine

/-- A node of the forest (R57): a template and its ordered children. -/
inductive Node where
  | mk (template : Template) (children : List Node)

/-- The template of a node. -/
def Node.template : Node → Template
  | .mk t _ => t

/-- The Pattern Index of one table (R57): the constant map, keyed by `constVal`, and the ordered roots. -/
structure PatternIndex where
  constMap : List (Byte × Template)
  roots : List Node

/-- Nothing registered. -/
def PatternIndex.empty : PatternIndex := ⟨[], []⟩

/-! ## Placement (R59) -/

mutual

/-- `Offer(P, n)`: P with the new template somewhere under it, or `none` where P does not accept it. -/
def Node.offer (t : Template) : Node → Option Node
  | .mk p cs =>
    if superPattern p t then
      match Node.offerList t cs with
      | some cs' => some (.mk p cs')
      | none => some (.mk p (cs ++ [.mk t []]))
    else none

/-- The first node of a list that accepts the new template, in list order. -/
def Node.offerList (t : Template) : List Node → Option (List Node)
  | [] => none
  | c :: cs =>
    match Node.offer t c with
    | some c' => some (c' :: cs)
    | none =>
      match Node.offerList t cs with
      | some cs' => some (c :: cs')
      | none => none

end

/-- `Place(n)`: under the first root that accepts it, else a new root at the end. -/
def Node.place (t : Template) (roots : List Node) : List Node :=
  match Node.offerList t roots with
  | some rs => rs
  | none => roots ++ [.mk t []]

/-! ## Adoption (R60, D5) -/

mutual

/-- `Scan` below one node: the node without the hits, and the hits in scan order. -/
def Node.scan (t : Template) : Node → Node × List Node
  | .mk p cs => (.mk p (Node.scanList t cs).1, (Node.scanList t cs).2)

/-- `Scan(list)`: the new node itself is passed over; a node it is a super-pattern of is a hit and is not searched
further; any other node is searched below. -/
def Node.scanList (t : Template) : List Node → List Node × List Node
  | [] => ([], [])
  | m :: ms =>
    let rest := Node.scanList t ms
    if m.template = t then (m :: rest.1, rest.2)
    else if superPattern t m.template then (rest.1, m :: rest.2)
    else ((m.scan t).1 :: rest.1, (m.scan t).2 ++ rest.2)

end

mutual

/-- The hits made children of the node of the new template. -/
def Node.adopt (t : Template) (hits : List Node) : Node → Node
  | .mk p cs => if p = t then .mk p (cs ++ hits) else .mk p (Node.adoptList t hits cs)

def Node.adoptList (t : Template) (hits : List Node) : List Node → List Node
  | [] => []
  | m :: ms => m.adopt t hits :: Node.adoptList t hits ms

end

/-- Placement and then adoption of one non-constant template (R59, R60). -/
def Node.insert (t : Template) (roots : List Node) : List Node :=
  let placed := Node.place t roots
  let scanned := Node.scanList t placed
  Node.adoptList t scanned.2 scanned.1

/-! ## The templates of a forest -/

mutual

/-- A node's template and those below it. -/
def Node.templates : Node → List Template
  | .mk p cs => p :: Node.templatesList cs

def Node.templatesList : List Node → List Template
  | [] => []
  | m :: ms => m.templates ++ Node.templatesList ms

end

/-! ## The walk (R62) -/

mutual

/-- `Descend(n, b)`: the first child that matches, else the node's own template. -/
def Node.descend (b : Byte) : Node → Template
  | .mk p cs =>
    match Node.walkList b cs with
    | some t => t
    | none => p

/-- The first node of a list that matches `b`, descended into. -/
def Node.walkList (b : Byte) : List Node → Option Template
  | [] => none
  | m :: ms => if m.template.test b then some (m.descend b) else Node.walkList b ms

end

/-- The constant map's entry for a byte. -/
def PatternIndex.constant (ix : PatternIndex) (b : Byte) : Option Template :=
  match ix.constMap.find? fun e => e.1 = b with
  | some e => some e.2
  | none => none

/-- `Test(byte)` (R62): the constant map first, then the walk; `none` is no-match. -/
def PatternIndex.test (ix : PatternIndex) (b : Byte) : Option Template :=
  match ix.constant b with
  | some t => some t
  | none => Node.walkList b ix.roots

/-! ## Registration (R58, R61) -/

/-- `AddPattern` of a parsed template. The failure is `DuplicateOpcodeError`: the key of a constant template is taken
(R58), or a non-constant template has the mask and value of one in the forest (R61). -/
def PatternIndex.add (ix : PatternIndex) (t : Template) : Option PatternIndex :=
  if t.isFullyConstant then
    if ix.constMap.any fun e => e.1 = t.constVal then none
    else some { ix with constMap := ix.constMap ++ [(t.constVal, t)] }
  else if (Node.templatesList ix.roots).any fun u => u.constMask = t.constMask && u.constVal = t.constVal then none
  else some { ix with roots := Node.insert t ix.roots }

/-- All the templates registered. -/
def PatternIndex.templates (ix : PatternIndex) : List Template :=
  ix.constMap.map (·.2) ++ Node.templatesList ix.roots

/-! ## Decode (R63) and well-formedness (R64) -/

/-- `Decode(T, b)` (R63): of the templates that match, the one with the most constant bits. -/
def decodeTemplates : List Template → Byte → Option Template
  | [], _ => none
  | t :: ts, b =>
    if t.test b then
      match decodeTemplates ts b with
      | none => some t
      | some u => if popcount u.constMask < popcount t.constMask then some t else some u
    else decodeTemplates ts b

/-- No two templates of a list have one mask and value (W1). -/
def distinctPatterns : List Template → Bool
  | [] => true
  | t :: ts =>
    ts.all (fun u => !(u.constMask = t.constMask && u.constVal = t.constVal)) && distinctPatterns ts

/-- Every two templates of a list are in the super-pattern relation, one way or the other. -/
def pairwiseRelated : List Template → Bool
  | [] => true
  | t :: ts => ts.all (fun u => superPattern t u || superPattern u t) && pairwiseRelated ts

/-- The 256 byte values. -/
def allBytes : List Byte := (List.range 256).map (BitVec.ofNat 8)

/-- W2 at one byte: it is a key of the constant map, or the non-constant templates that match it form a chain. -/
def chainAt (ts : List Template) (b : Byte) : Bool :=
  ts.any (fun t => t.isFullyConstant && t.constVal = b)
    || pairwiseRelated (ts.filter fun t => !t.isFullyConstant && t.test b)

/-- The first template of a list that is in the super-pattern relation with some later one neither way. -/
def firstUnrelated : List Template → Option Template
  | [] => none
  | t :: ts => if ts.all (fun u => superPattern t u || superPattern u t) then firstUnrelated ts else some t

/-- A template that violates W2 (R64, 60_exceptions.md R306), `none` where the table satisfies it. DESIGN CHOICE (log 22):
of the templates that do, the model names the one at the lowest byte that W2 fails at, and there the first in the order
of the list that is unrelated to another. -/
def ambiguousTemplate (ts : List Template) : Option Template :=
  allBytes.findSome? fun b =>
    if ts.any (fun t => t.isFullyConstant && t.constVal = b) then none
    else firstUnrelated (ts.filter fun t => !t.isFullyConstant && t.test b)

/-- The well-formed table (R64): W1 and W2. -/
def wellFormedTable (ts : List Template) : Bool := distinctPatterns ts && allBytes.all (chainAt ts)

end Sys2Proof.Machine
end

