-- ==== Sys2Proof/Machine/Interpreter.lean ====
section
/-! DEFINITION. The Interpreter and the Processor for any tables: registration, its refusals, `Execute`, the tick and
the step (41_engine.md R120 to R122, R129, R130, R134, R135; 60_exceptions.md R300 to R306), and the canonical
registration. A refused registration is a construction that failed: there is no machine (00_scope.md R7). -/

namespace Sys2Proof.Machine

/-- What a template is bound to (R122): an ordinary handler, a function of the extracted fields and the machine (R123); a
deliberately stubbed instruction; a group template. -/
inductive Handler where
  | exec (run : (Char → Nat) → State → Result)
  | unimplemented
  | group

/-- The two tables of an interpreter (30_encoding.md R67): a Pattern Index each, and a map from template text to handler each. -/
structure Interpreter where
  index0 : PatternIndex
  index1 : PatternIndex
  dispatch0 : List (String × Handler)
  dispatch1 : List (String × Handler)

/-- Nothing registered. -/
def Interpreter.empty : Interpreter := ⟨.empty, .empty, [], []⟩

/-- The Pattern Index of a table. -/
def Interpreter.index (ip : Interpreter) : TableIx → PatternIndex
  | .t0 => ip.index0
  | .t1 => ip.index1

/-- The handler registered under a text in a table. -/
def Interpreter.handler (ip : Interpreter) (t : TableIx) (text : String) : Option Handler :=
  match t with
  | .t0 => ip.dispatch0.lookup text
  | .t1 => ip.dispatch1.lookup text

/-- The interpreter after one registration went through. -/
def Interpreter.put (ip : Interpreter) (t : TableIx) (ix : PatternIndex) (text : String) (h : Handler) : Interpreter :=
  match t with
  | .t0 => { ip with index0 := ix, dispatch0 := ip.dispatch0 ++ [(text, h)] }
  | .t1 => { ip with index1 := ix, dispatch1 := ip.dispatch1 ++ [(text, h)] }

/-- `AddInstruction(text, handler, table)` (R120): parse (R301, R302 (b)), add to the index (R302 (a), (c)), bind the
text. A refusal leaves no interpreter. -/
def Interpreter.addInstruction (ip : Interpreter) (text : String) (h : Handler) (t : TableIx) :
    Except Refusal Interpreter :=
  match parseTemplate text with
  | .error .malformed => .error (.templateParse t text)
  | .error .repeatedLetter => .error (.duplicateOpcode t text)
  | .ok p =>
    match (ip.index t).add p with
    | none => .error (.duplicateOpcode t text)
    | some ix => .ok (ip.put t ix text h)

/-- One registration: the table, the text, the handler. -/
abbrev Registration := TableIx × String × Handler

/-- The registrations of a sequence, in order; the first refusal ends it. -/
def Interpreter.addAll : List Registration → Interpreter → Except Refusal Interpreter
  | [], ip => .ok ip
  | (t, text, h) :: rs, ip =>
    match ip.addInstruction text h t with
    | .ok ip' => Interpreter.addAll rs ip'
    | .error e => .error e

/-- The check of W2 for one table (30_encoding.md R64, R306): the refusal, with the offending text (R300). -/
def Interpreter.ambiguity (ip : Interpreter) (t : TableIx) : Option Refusal :=
  (ambiguousTemplate (ip.index t).templates).map fun p => .ambiguousTemplateSet t p.sourceText

/-- Construction (R120, R135): the registrations, then the check of both tables (R306). W1 holds by then (R58, R61).
DESIGN CHOICE (log 22): the spec gives no order of the two tables; where both violate W2 the refusal names table 0. -/
def Interpreter.build (rs : List Registration) : Except Refusal Interpreter :=
  match Interpreter.addAll rs .empty with
  | .error e => .error e
  | .ok ip =>
    match ip.ambiguity .t0, ip.ambiguity .t1 with
    | some e, _ => .error e
    | none, some e => .error e
    | none, none => .ok ip

/-- `Execute(rf, bus, opcode, table)` (R121) over the tables of an interpreter. -/
def Interpreter.execute (ip : Interpreter) (t : TableIx) (op : Byte) (s : State) : Result :=
  match (ip.index t).test op with
  | none => raise (.instructionCoverage t op) s
  | some p =>
    match ip.handler t p.sourceText with
    | some (.exec run) => run (p.field op) s
    | some .unimplemented => raise (.unimplementedOpcode t op) s
    | some .group => raise (.unreachableDispatch t op) s
    | none => raise (.instructionCoverage t op) s

/-- The ready-to-fetch branch of the tick loop (R129) over the tables of an interpreter. -/
def Interpreter.dispatch (ip : Interpreter) (s : State) : Result :=
  let x := State.fetchOpcode { s with countdown := 0 }
  conclude x.1 x.2.1 (ip.execute x.1 x.2.1 x.2.2)

/-- The tick (R129) over the tables of an interpreter. -/
def Interpreter.tick (ip : Interpreter) (s : State) : Result :=
  match s.fault with
  | some _ => .next s
  | none => if 0 < s.countdown then .next { s with countdown := s.countdown - 1 } else ip.dispatch s

/-- The instruction-level step (R130) over the tables of an interpreter. -/
def Interpreter.step (ip : Interpreter) (s : State) : Result :=
  match s.fault with
  | some _ => .next s
  | none => ip.dispatch s

/-! ## The canonical registration -/

/-- The templates whose handlers are of kind `unimplemented` (R122, R304). All are in table 0. -/
def unimplementedTexts : List String :=
  ["00010000", "01110110", "11110011", "11111011", "11011001", "11001011", "11010011", "11011011", "11011101",
    "11100011", "11100100", "11101011", "11101100", "11101101", "11110100", "11111100", "11111101"]

/-- The registration of a canonical row (R120): its text, in its table, with the handler that fetches its operand bytes
and runs its instruction, or the stub. -/
def canonicalRegistration (t : TableIx) (r : Row) : Registration :=
  (t, r.text,
    if t = .t0 && unimplementedTexts.contains r.text then .unimplemented
    else .exec fun fields s => runForm (r.build fields) s)

/-- The canonical registration (R120): every row of R76 in table 0 and every row of R77 in table 1. -/
def canonicalRegistrations : List Registration :=
  table0.map (canonicalRegistration .t0) ++ table1.map (canonicalRegistration .t1)

end Sys2Proof.Machine
end

