-- ==== Sys2Proof/Safety.lean ====
section
/-! DEFINITION. What a state of this machine always satisfies, and what counts as a safe run. -/

namespace Sys2Proof.Machine

/-- The invariant of the canonical machine. It rules out states no Processor is ever in. -/
structure Invariant (s : State) : Prop where
  /-- F bits 3..0 are 0 (10_state.md R11). -/
  flagsLow : s.rf.f &&& 0x0F#8 = 0#8
  /-- The bus content is in canonical form. -/
  content : Memory.wf s.bus.mem = true
  /-- After a fault the countdown is 0 (60_exceptions.md R310). -/
  faultReady : ∀ k, s.fault = some k → s.countdown = 0
  /-- The only fault a program can cause is `UnimplementedOpcodeError`, in table 0 (60_exceptions.md R304). -/
  faultKind : ∀ k, s.fault = some k → ∃ op, k = Fault.unimplementedOpcode .t0 op

/-- No fault is latched: the Processor takes steps (10_state.md R22). -/
def State.running (s : State) : Prop := s.fault = none

/-- A safe run of `n` instructions from a state: none of them faults. -/
def SafeFor : Nat → State → Prop
  | 0, s => s.running
  | n + 1, s => s.running ∧ ∃ t, step s = .next t ∧ SafeFor n t

end Sys2Proof.Machine
end

