-- ==== Sys2Proof/Certificates/Slice0/Obligations.lean ====
section
/-! DEFINITION. The statements for the provers, and before them the words they are said in: results written from the
spec's rules in plain arithmetic, not with the model's own flag and rotate functions.

The instruction rules carry the spec's decisions on byte order (D11), wrapping (D13) and the flags of operations absent
from its source's table (D29); what is formalised is each rule as the spec prints it. A statement that rests on another
decision, on an inference the spec marks as derived, or on a choice of this model says so. -/

namespace Sys2Proof.Spec

open Sys2Proof.Machine

/-! ## Values -/

/-- F with the four flags (10_state.md R13): Z, N, H, C are bits 7, 6, 5, 4 and bits 3..0 are 0. -/
def flagByte (z n h c : Bool) : Byte :=
  BitVec.ofNat 8 (128 * z.toNat + 64 * n.toNat + 32 * h.toNat + 16 * c.toNat)

/-- The flags of a register file, read by arithmetic (10_state.md R13). -/
def zOf (r : RegFile) : Bool := r.f.toNat / 128 % 2 == 1
def nOf (r : RegFile) : Bool := r.f.toNat / 64 % 2 == 1
def hOf (r : RegFile) : Bool := r.f.toNat / 32 % 2 == 1
def cOf (r : RegFile) : Bool := r.f.toNat / 16 % 2 == 1

/-- A 16-bit value from its two bytes, and its two bytes (10_state.md R12). -/
def word (hi lo : Byte) : Word := BitVec.ofNat 16 (256 * hi.toNat + lo.toNat)
def high (w : Word) : Byte := BitVec.ofNat 8 (w.toNat / 256)
def low (w : Word) : Byte := BitVec.ofNat 8 (w.toNat % 256)

/-- The address in HL. -/
def hl (r : RegFile) : Word := word r.h r.l

/-- The number of an `r8` operand in an opcode (30_encoding.md R70). -/
def number : R8 → Nat
  | .b => 0
  | .c => 1
  | .d => 2
  | .e => 3
  | .h => 4
  | .l => 5
  | .indHl => 6
  | .a => 7

/-- The number of a pair (30_encoding.md R71). -/
def pairNumber : R16 → Nat
  | .bc => 0
  | .de => 1
  | .hl => 2
  | .sp => 3

/-- The number of a stack pair (30_encoding.md R71). -/
def stackPairNumber : R16Stk → Nat
  | .bc => 0
  | .de => 1
  | .hl => 2
  | .af => 3

/-- The number of a condition (30_encoding.md R72). -/
def conditionNumber : Cond → Nat
  | .nz => 0
  | .z => 1
  | .nc => 2
  | .c => 3

/-- The register an operand names; the `(HL)` operand is no register (here 0, never used). -/
def register (r : RegFile) : R8 → Byte
  | .b => r.b
  | .c => r.c
  | .d => r.d
  | .e => r.e
  | .h => r.h
  | .l => r.l
  | .indHl => 0
  | .a => r.a

/-- The register file with the register an operand names replaced. -/
def withRegister (r : RegFile) (i : R8) (v : Byte) : RegFile :=
  match i with
  | .b => { r with b := v }
  | .c => { r with c := v }
  | .d => { r with d := v }
  | .e => { r with e := v }
  | .h => { r with h := v }
  | .l => { r with l := v }
  | .indHl => r
  | .a => { r with a := v }

/-- A pair, read and written (10_state.md R12). -/
def pair (r : RegFile) : R16 → Word
  | .bc => word r.b r.c
  | .de => word r.d r.e
  | .hl => word r.h r.l
  | .sp => r.sp

def withPair (r : RegFile) (p : R16) (v : Word) : RegFile :=
  match p with
  | .bc => { r with b := high v, c := low v }
  | .de => { r with d := high v, e := low v }
  | .hl => { r with h := high v, l := low v }
  | .sp => { r with sp := v }

/-- A stack pair, read and written; F keeps only its high nibble (10_state.md R11, R12). -/
def stackPair (r : RegFile) : R16Stk → Word
  | .bc => word r.b r.c
  | .de => word r.d r.e
  | .hl => word r.h r.l
  | .af => word r.a r.f

def withStackPair (r : RegFile) (p : R16Stk) (v : Word) : RegFile :=
  match p with
  | .bc => { r with b := high v, c := low v }
  | .de => { r with d := high v, e := low v }
  | .hl => { r with h := high v, l := low v }
  | .af => { r with a := high v, f := BitVec.ofNat 8 (16 * (v.toNat % 256 / 16)) }

/-- Whether a condition holds (41_engine.md R127). -/
def holds (r : RegFile) : Cond → Bool
  | .nz => !zOf r
  | .z => zOf r
  | .nc => !cOf r
  | .c => cOf r

/-- The high-page address of an offset (30_encoding.md R69). -/
def page (n : Byte) : Word := BitVec.ofNat 16 (0xFF00 + n.toNat)

/-- A 16-bit value plus a signed displacement, modulo 2^16 (40_primitives.md R110). -/
def displaced (w : Word) (e : Byte) : Word := BitVec.ofInt 16 ((w.toNat : Int) + e.toInt)

/-! ## The bus and the end of an instruction -/

/-- The state after one bus read at an address (20_memory.md R36). -/
def afterRead (a : Word) (s : State) : State :=
  { s with bus := { s.bus with replies := s.bus.replies.tail, log := .read a (s.bus.answer a) :: s.bus.log } }

/-- The state after one bus write. -/
def afterWrite (a : Word) (v : Byte) (s : State) : State :=
  { s with bus := { s.bus with mem := Memory.write s.bus.mem a.toNat v, log := .write a v :: s.bus.log } }

/-- The state after a byte was fetched at PC (41_engine.md R124): one bus read, PC one further modulo 2^16. -/
def afterFetch (s : State) : State := { afterRead s.rf.pc s with rf := { s.rf with pc := s.rf.pc + 1 } }

/-- The instruction ends: the register file it leaves and the extra cycles it returns (41_engine.md R128). -/
def done (s : State) (r : RegFile) (extra : Nat) : Result := .next { s with rf := r, extra := extra }

/-- A call ends (R275, R280): the address of the next instruction is pushed, high byte first, and PC is the target. -/
def called (s : State) (target : Word) (extra : Nat) : Result :=
  done (afterWrite (s.rf.sp - 2) (low s.rf.pc) (afterWrite (s.rf.sp - 1) (high s.rf.pc) s))
    { s.rf with sp := s.rf.sp - 2, pc := target } extra

/-- A return ends (R277): PC is read from the stack, low byte first. -/
def returned (s : State) (extra : Nat) : Result :=
  done (afterRead (s.rf.sp + 1) (afterRead s.rf.sp s))
    { s.rf with
      sp := s.rf.sp + 2
      pc := word ((afterRead s.rf.sp s).bus.answer (s.rf.sp + 1)) (s.bus.answer s.rf.sp) } extra

/-! ## Which opcode runs an instruction, and what it fetches first (30_encoding.md R68, R69; 41_engine.md R121, R124) -/

/-- Opcode `op` of a table runs `i`, which has no operand byte. -/
def Runs (t : TableIx) (op : Nat) (i : Instr) : Prop :=
  ∀ s, execute t (BitVec.ofNat 8 op) s = exec i s

/-- Opcode `op` of table 0 fetches one byte and runs `k` of it. -/
def Runs8 (op : Nat) (k : Byte → Instr) : Prop :=
  ∀ s, execute .t0 (BitVec.ofNat 8 op) s = exec (k (s.bus.answer s.rf.pc)) (afterFetch s)

/-- Opcode `op` of table 0 fetches two bytes, the low one first, and runs `k` of the value. -/
def Runs16 (op : Nat) (k : Word → Instr) : Prop :=
  ∀ s, execute .t0 (BitVec.ofNat 8 op) s =
    exec (k (word ((afterFetch s).bus.answer (s.rf.pc + 1)) (s.bus.answer s.rf.pc))) (afterFetch (afterFetch s))

/-! ## The arithmetic of 40_primitives.md -/

/-- A plus `v` plus a carry (R91). -/
def added (carry : Bool) (r : RegFile) (v : Byte) : RegFile :=
  let sum := r.a.toNat + v.toNat + carry.toNat
  { r with
    a := BitVec.ofNat 8 sum
    f := flagByte (sum % 256 == 0) false (decide (15 < r.a.toNat % 16 + v.toNat % 16 + carry.toNat)) (decide (255 < sum)) }

/-- The flags of A minus `v` minus a borrow (R92). -/
def subtractedFlags (borrow : Bool) (r : RegFile) (v : Byte) : Byte :=
  flagByte ((256 + 256 + r.a.toNat - v.toNat - borrow.toNat) % 256 == 0) true
    (decide (r.a.toNat % 16 < v.toNat % 16 + borrow.toNat)) (decide (r.a.toNat < v.toNat + borrow.toNat))

/-- A minus `v` minus a borrow (R92). -/
def subtracted (borrow : Bool) (r : RegFile) (v : Byte) : RegFile :=
  { r with
    a := BitVec.ofNat 8 (256 + 256 + r.a.toNat - v.toNat - borrow.toNat)
    f := subtractedFlags borrow r v }

/-- A compared with `v` (R92): only the flags. -/
def compared (r : RegFile) (v : Byte) : RegFile := { r with f := subtractedFlags false r v }

/-- The logic operations (R95 to R97). -/
def logical (op : Nat → Nat → Nat) (h : Bool) (r : RegFile) (v : Byte) : RegFile :=
  { r with
    a := BitVec.ofNat 8 (op r.a.toNat v.toNat)
    f := flagByte (op r.a.toNat v.toNat == 0) false h false }

/-- The flags of an 8-bit increment and decrement (R93, R94): C as it was. -/
def incrementFlags (r : RegFile) (x : Byte) : RegFile :=
  { r with f := flagByte (x.toNat == 255) false (x.toNat % 16 == 15) (cOf r) }

def decrementFlags (r : RegFile) (x : Byte) : RegFile :=
  { r with f := flagByte (x.toNat == 1) true (x.toNat % 16 == 0) (cOf r) }

/-- Rotates, shifts and swap as arithmetic on the old carry and the byte (R100 to R107): the new byte, and the bit
that goes to C. -/
abbrev Shift := Bool → Nat → Nat × Bool

def rotateLeft : Shift := fun _ x => (x * 2 % 256 + x / 128, x / 128 == 1)
def rotateRight : Shift := fun _ x => (x / 2 + 128 * (x % 2), x % 2 == 1)
def rotateLeftCarry : Shift := fun c x => (x * 2 % 256 + c.toNat, x / 128 == 1)
def rotateRightCarry : Shift := fun c x => (x / 2 + 128 * c.toNat, x % 2 == 1)
def shiftLeft : Shift := fun _ x => (x * 2 % 256, x / 128 == 1)
def shiftRightSigned : Shift := fun _ x => (x / 2 + 128 * (x / 128), x % 2 == 1)
def shiftRight : Shift := fun _ x => (x / 2, x % 2 == 1)
def swapNibbles : Shift := fun _ x => (x % 16 * 16 + x / 16, false)

/-- F after a rotate or shift of `x`: N and H are 0, Z is the result's when asked for. -/
def shiftedFlags (g : Shift) (setZ : Bool) (r : RegFile) (x : Byte) : RegFile :=
  { r with f := flagByte (setZ && (g (cOf r) x.toNat).1 == 0) false false (g (cOf r) x.toNat).2 }

/-- The byte after a rotate or shift of `x`. -/
def shifted (g : Shift) (r : RegFile) (x : Byte) : Byte := BitVec.ofNat 8 (g (cOf r) x.toNat).1

/-- Decimal adjust (R108). -/
def adjusted (r : RegFile) : RegFile :=
  let down := nOf r
  let six := if hOf r || (!down && decide (9 < r.a.toNat % 16)) then 6 else 0
  let carry := cOf r || (!down && decide (0x99 < r.a.toNat))
  let sixty := if carry then 0x60 else 0
  let res := if down then 256 + r.a.toNat - six - sixty else r.a.toNat + six + sixty
  { r with
    a := BitVec.ofNat 8 res
    f := flagByte (res % 256 == 0) down false carry }

/-- The flags of SP plus a displacement (R110). -/
def displacedFlags (r : RegFile) (e : Byte) : Byte :=
  flagByte false false (decide (15 < r.sp.toNat % 16 + e.toNat % 16)) (decide (255 < r.sp.toNat % 256 + e.toNat))

/-- The flags of HL plus a 16-bit value (R109): Z as it was. -/
def pairSumFlags (r : RegFile) (v : Word) : Byte :=
  flagByte (zOf r) false (decide (4095 < (hl r).toNat % 4096 + v.toNat % 4096)) (decide (65535 < (hl r).toNat + v.toNat))

/-! ## The families of one shape -/

/-- One of the eight accumulator operations, number `k` (44_alu8.md): its three forms, their opcodes, what each
computes and reads. -/
def Accumulates (k : Nat) (g : RegFile → Byte → RegFile) (onReg : R8 → Instr) (onHl : Instr) (onImm : Byte → Instr) :
    Prop :=
  (∀ r, r ≠ .indHl → Runs .t0 (0x80 + 8 * k + number r) (onReg r) ∧
    ∀ s, exec (onReg r) s = done s (g s.rf (register s.rf r)) 0) ∧
  Runs .t0 (0x86 + 8 * k) onHl ∧
  (∀ s, exec onHl s = done (afterRead (hl s.rf) s) (g s.rf (s.bus.answer (hl s.rf))) 0) ∧
  Runs8 (0xC6 + 8 * k) onImm ∧
  ∀ s v, exec (onImm v) s = done s (g s.rf v) 0

/-- An operation that replaces an operand byte, in a table, at `base` plus the operand number times `scale`: a
register, or the byte at HL read once and written once. `val` is the new byte and `upd` the register file with the flags. -/
def Replaces (t : TableIx) (base scale : Nat) (val : RegFile → Byte → Byte) (upd : RegFile → Byte → RegFile)
    (onReg : R8 → Instr) (onHl : Instr) : Prop :=
  (∀ r, r ≠ .indHl → Runs t (base + scale * number r) (onReg r) ∧
    ∀ s, exec (onReg r) s =
      done s (withRegister (upd s.rf (register s.rf r)) r (val s.rf (register s.rf r))) 0) ∧
  Runs t (base + scale * 6) onHl ∧
  ∀ s, exec onHl s =
    done (afterWrite (hl s.rf) (val s.rf (s.bus.answer (hl s.rf))) (afterRead (hl s.rf) s))
      (upd s.rf (s.bus.answer (hl s.rf))) 0

/-- One of the eight rotate and shift operations of table 1, number `k`. -/
def Shifts (k : Nat) (g : Shift) (onReg : R8 → Instr) (onHl : Instr) : Prop :=
  Replaces .t1 (8 * k) 1 (shifted g) (shiftedFlags g true) onReg onHl

/-- A stubbed instruction (41_engine.md R122): its opcode runs it, and all it does is latch the fault. -/
def Faults (op : Nat) (i : Instr) : Prop :=
  Runs .t0 op i ∧
  ∀ s, exec i s = .next { s with fault := some (.unimplementedOpcode .t0 (BitVec.ofNat 8 op)) }

/-! ## What an instruction may change, over all instructions -/

/-- The register an `r8` operand names, as an identifier; none for `(HL)`. -/
def idOf : R8 → List Id8
  | .b => [.b]
  | .c => [.c]
  | .d => [.d]
  | .e => [.e]
  | .h => [.h]
  | .l => [.l]
  | .indHl => []
  | .a => [.a]

/-- The bytes of a pair; SP is none. -/
def idsOfPair : R16 → List Id8
  | .bc => [.b, .c]
  | .de => [.d, .e]
  | .hl => [.h, .l]
  | .sp => []

/-- The bytes of a stack pair. -/
def idsOfStackPair : R16Stk → List Id8
  | .bc => [.b, .c]
  | .de => [.d, .e]
  | .hl => [.h, .l]
  | .af => [.a, .f]

/-- The byte registers other than F that an instruction writes, by its rule. -/
def destinations : Instr → List Id8
  | .ldRR dst _ | .ldRD8 dst _ | .ldRIndHl dst | .incR dst | .decR dst => idOf dst
  | .rlcR r | .rrcR r | .rlR r | .rrR r | .slaR r | .sraR r | .swapR r | .srlR r | .resR _ r | .setR _ r => idOf r
  | .ldAIndBc | .ldAIndDe | .ldAIndA16 _ | .ldhAIndA8 _ | .ldAIndC => [.a]
  | .ldAIndHlInc | .ldAIndHlDec => [.a, .h, .l]
  | .ldIndHlIncA | .ldIndHlDecA | .addHlRr _ | .ldHlSpE8 _ => [.h, .l]
  | .ldRrD16 p _ | .incRr p | .decRr p => idsOfPair p
  | .popRr p => idsOfStackPair p
  | .addAR _ | .addAIndHl | .addAD8 _ | .adcAR _ | .adcAIndHl | .adcAD8 _ | .subR _ | .subIndHl | .subD8 _
  | .sbcAR _ | .sbcAIndHl | .sbcAD8 _ | .andR _ | .andIndHl | .andD8 _ | .xorR _ | .xorIndHl | .xorD8 _
  | .orR _ | .orIndHl | .orD8 _ | .daa | .cpl | .rlca | .rrca | .rla | .rra => [.a]
  | _ => []

/-- Whether an instruction writes SP. -/
def writesSp : Instr → Bool
  | .ldRrD16 .sp _ | .incRr .sp | .decRr .sp | .ldSpHl | .addSpE8 _ => true
  | .pushRr _ | .popRr _ | .callA16 _ | .callCcA16 _ _ | .ret | .retCc _ | .rstT _ => true
  | _ => false

/-- Whether an instruction writes PC beyond its own fetch: the control transfers. -/
def transfers : Instr → Bool
  | .jpA16 _ | .jpCcA16 _ _ | .jpHl | .jrE8 _ | .jrCcE8 _ _ | .callA16 _ | .callCcA16 _ _ | .ret | .retCc _
  | .rstT _ => true
  | _ => false

/-- Whether an instruction writes Z, N, H, C (40_primitives.md R116 and the instruction rules). -/
def flagsWritten : Instr → Bool × Bool × Bool × Bool
  | .addAR _ | .addAIndHl | .addAD8 _ | .adcAR _ | .adcAIndHl | .adcAD8 _ | .subR _ | .subIndHl | .subD8 _
  | .sbcAR _ | .sbcAIndHl | .sbcAD8 _ | .andR _ | .andIndHl | .andD8 _ | .xorR _ | .xorIndHl | .xorD8 _
  | .orR _ | .orIndHl | .orD8 _ | .cpR _ | .cpIndHl | .cpD8 _ => (true, true, true, true)
  | .rlca | .rrca | .rla | .rra => (true, true, true, true)
  | .rlcR _ | .rlcIndHl | .rrcR _ | .rrcIndHl | .rlR _ | .rlIndHl | .rrR _ | .rrIndHl | .slaR _ | .slaIndHl
  | .sraR _ | .sraIndHl | .swapR _ | .swapIndHl | .srlR _ | .srlIndHl => (true, true, true, true)
  | .addSpE8 _ | .ldHlSpE8 _ | .popRr .af => (true, true, true, true)
  | .incR _ | .incIndHl | .decR _ | .decIndHl | .bitR _ _ | .bitIndHl _ => (true, true, true, false)
  | .daa => (true, false, true, true)
  | .cpl => (false, true, true, false)
  | .addHlRr _ | .scf | .ccf => (false, true, true, true)
  | _ => (false, false, false, false)

/-- The seventeen instructions that fault (60_exceptions.md R304). -/
def stubbed : Instr → Bool
  | .stop | .halt | .di | .ei | .reti | .prefixCb | .illegalD3 | .illegalDB | .illegalDD | .illegalE3 | .illegalE4
  | .illegalEB | .illegalEC | .illegalED | .illegalF4 | .illegalFC | .illegalFD => true
  | _ => false

/-- An access: `true` for a write, and its address. -/
abbrev Access := Bool × Word

/-- The accesses of a register operand, the byte at HL standing for `(HL)`. -/
def operandRead (r : R8) (rf : RegFile) : List Access := if r = .indHl then [(false, hl rf)] else []

def operandChange (r : R8) (rf : RegFile) : List Access :=
  if r = .indHl then [(false, hl rf), (true, hl rf)] else []

/-- The writes of a push of two bytes (20_memory.md R46). -/
def pushes (rf : RegFile) : List Access := [(true, rf.sp - 1), (true, rf.sp - 2)]

/-- The reads of a pop of two bytes (20_memory.md R46). -/
def pops (rf : RegFile) : List Access := [(false, rf.sp), (false, rf.sp + 1)]

/-- The bus accesses of an instruction after its own bytes are fetched, in order (the table of 20_memory.md R46), from
the register file it starts with. -/
def accesses (i : Instr) (rf : RegFile) : List Access :=
  match i with
  | .ldRR dst r => operandRead r rf ++ (if dst = .indHl then [(true, hl rf)] else [])
  | .ldRD8 dst _ => if dst = .indHl then [(true, hl rf)] else []
  | .ldRIndHl dst => (false, hl rf) :: (if dst = .indHl then [(true, hl rf)] else [])
  | .ldIndHlR r => operandRead r rf ++ [(true, hl rf)]
  | .addAIndHl | .adcAIndHl | .subIndHl | .sbcAIndHl | .andIndHl | .xorIndHl | .orIndHl | .cpIndHl | .bitIndHl _
  | .ldAIndHlInc | .ldAIndHlDec => [(false, hl rf)]
  | .addAR r | .adcAR r | .subR r | .sbcAR r | .andR r | .xorR r | .orR r | .cpR r | .bitR _ r => operandRead r rf
  | .ldIndHlD8 _ | .ldIndHlIncA | .ldIndHlDecA => [(true, hl rf)]
  | .ldAIndBc => [(false, word rf.b rf.c)]
  | .ldAIndDe => [(false, word rf.d rf.e)]
  | .ldIndBcA => [(true, word rf.b rf.c)]
  | .ldIndDeA => [(true, word rf.d rf.e)]
  | .ldAIndA16 a => [(false, a)]
  | .ldIndA16A a => [(true, a)]
  | .ldhAIndA8 n => [(false, page n)]
  | .ldhIndA8A n => [(true, page n)]
  | .ldAIndC => [(false, page rf.c)]
  | .ldIndCA => [(true, page rf.c)]
  | .ldIndA16Sp a => [(true, a), (true, a + 1)]
  | .incIndHl | .decIndHl | .rlcIndHl | .rrcIndHl | .rlIndHl | .rrIndHl | .slaIndHl | .sraIndHl | .swapIndHl
  | .srlIndHl | .resIndHl _ | .setIndHl _ => [(false, hl rf), (true, hl rf)]
  | .incR r | .decR r | .rlcR r | .rrcR r | .rlR r | .rrR r | .slaR r | .sraR r | .swapR r | .srlR r | .resR _ r
  | .setR _ r => operandChange r rf
  | .pushRr _ | .callA16 _ | .rstT _ => pushes rf
  | .callCcA16 cc _ => if holds rf cc then pushes rf else []
  | .popRr _ | .ret => pops rf
  | .retCc cc => if holds rf cc then pops rf else []
  | _ => []

/-- The addresses an instruction stores to. -/
def stores (i : Instr) (rf : RegFile) : List Word := ((accesses i rf).filter (·.1)).map (·.2)

/-- What a bus call accesses. -/
def accessOf : BusCall → Access
  | .read a _ => (false, a)
  | .write a _ => (true, a)

/-- The extra cycles of an instruction (41_engine.md R128, 70_reset_and_hazards.md R327). -/
def extraCycles (i : Instr) (rf : RegFile) : Nat :=
  match i with
  | .jrCcE8 cc _ | .jpCcA16 cc _ => if holds rf cc then 4 else 0
  | .callCcA16 cc _ | .retCc cc => if holds rf cc then 12 else 0
  | _ => 0

/-! ## The step -/

/-- The next `n` bytes the bus answers to reads at PC and on. -/
def coming : Nat → State → List Byte
  | 0, _ => []
  | n + 1, s => s.bus.answer s.rf.pc :: coming n (afterFetch s)

/-- The state after `n` bytes were fetched. -/
def fetched : Nat → State → State
  | 0, s => s
  | n + 1, s => fetched n (afterFetch s)

/-- `BASE_TIMING` for the first bytes of an instruction (41_engine.md R129): a table 1 instruction is indexed by its
second byte. -/
def baseCost (t : Timing) : List Byte → Nat
  | b :: bs => if b = 0xCB#8 then t.t1.getD (bs.headD 0).toNat 0 else t.t0.getD b.toNat 0
  | [] => 0

/-- What the tick loop does with the result of an instruction (41_engine.md R129): the cost into the countdown, unless
it faulted. -/
def withCost (cost : Nat) : Result → Result
  | .next t => if t.fault = none then .next { t with countdown := cost + t.extra } else .next t
  | o => o

/-- The opcodes that fault when fetched (60_exceptions.md R304): all but the prefix byte, which is never dispatched in
table 0. -/
def faultingOpcodes : List Byte :=
  [0x10#8, 0x76#8, 0xF3#8, 0xFB#8, 0xD9#8, 0xD3#8, 0xDB#8, 0xDD#8, 0xE3#8, 0xE4#8, 0xEB#8, 0xEC#8, 0xED#8, 0xF4#8,
    0xFC#8, 0xFD#8]

/-- `n` ticks. -/
def ticks : Nat → State → Result
  | 0, s => .next s
  | n + 1, s =>
    match tick s with
    | .next t => ticks n t
    | o => o

/-- A number below 100 as a packed-BCD byte. -/
def bcd (x : Nat) : Byte := BitVec.ofNat 8 (16 * (x / 10) + x % 10)

/-- The bus answers every read from its content: a plain RAM (20_memory.md R36). -/
def PlainRam (s : State) : Prop := s.bus.replies = [] ∧ Memory.wf s.bus.mem = true

/-- Two register files that differ in F at most, and there not in Z or C. -/
def AlikeButNH (r q : RegFile) : Prop := zOf q = zOf r ∧ cOf q = cOf r ∧ q = { r with f := q.f }

/-! ## Template texts (30_encoding.md R50 to R53) -/

/-- A field letter. -/
abbrev isLetter (ch : Char) : Prop := 'a' ≤ ch ∧ ch ≤ 'z'

/-- No character offends: each is in the alphabet (R53), and no letter comes back after its field closed (R52): what stands
between two places of a letter is that letter. -/
def NoOffence (cs : List Char) : Prop :=
  (∀ ch ∈ cs, ch = '0' ∨ ch = '1' ∨ isLetter ch) ∧
  ∀ (i j k : Nat) ch, isLetter ch → i < j → j < k → cs[i]? = some ch → cs[k]? = some ch → cs[j]? = some ch

end Sys2Proof.Spec

section Statements

open Sys2Proof Sys2Proof.Machine Sys2Proof.Spec

/-! ## 8-bit loads (42_load8.md) -/

/-- `LD r,r'` and `LD r,d8`, every register form, with their opcodes (R140, R141). -/
def Obligations.LoadRegister : Prop :=
  ∀ dst, dst ≠ .indHl →
    (∀ r, r ≠ .indHl → Runs .t0 (0x40 + 8 * number dst + number r) (.ldRR dst r) ∧
      ∀ s, exec (.ldRR dst r) s = done s (withRegister s.rf dst (register s.rf r)) 0) ∧
    Runs8 (0x06 + 8 * number dst) (.ldRD8 dst) ∧
    ∀ s v, exec (.ldRD8 dst v) s = done s (withRegister s.rf dst v) 0

/-- `LD r,(HL)`, `LD A,(BC)`, `LD A,(DE)`, `LD A,(C)`, `LD A,(a16)`, `LDH A,(a8)` (R142, R145, R146, R157, R153, R155): the
operand bytes, one read, then the register. -/
def Obligations.LoadFromBus : Prop :=
  (∀ dst, dst ≠ .indHl → Runs .t0 (0x46 + 8 * number dst) (.ldRIndHl dst) ∧
    ∀ s, exec (.ldRIndHl dst) s = done (afterRead (hl s.rf) s) (withRegister s.rf dst (s.bus.answer (hl s.rf))) 0) ∧
  (Runs .t0 0x0A .ldAIndBc ∧ ∀ s, exec .ldAIndBc s =
    done (afterRead (word s.rf.b s.rf.c) s) { s.rf with a := s.bus.answer (word s.rf.b s.rf.c) } 0) ∧
  (Runs .t0 0x1A .ldAIndDe ∧ ∀ s, exec .ldAIndDe s =
    done (afterRead (word s.rf.d s.rf.e) s) { s.rf with a := s.bus.answer (word s.rf.d s.rf.e) } 0) ∧
  (Runs .t0 0xF2 .ldAIndC ∧ ∀ s, exec .ldAIndC s =
    done (afterRead (page s.rf.c) s) { s.rf with a := s.bus.answer (page s.rf.c) } 0) ∧
  (Runs16 0xFA .ldAIndA16 ∧ ∀ s a, exec (.ldAIndA16 a) s = done (afterRead a s) { s.rf with a := s.bus.answer a } 0) ∧
  (Runs8 0xF0 .ldhAIndA8 ∧ ∀ s n, exec (.ldhAIndA8 n) s =
    done (afterRead (page n) s) { s.rf with a := s.bus.answer (page n) } 0)

/-- `LD (HL),r`, `LD (BC),A`, `LD (DE),A`, `LD (C),A`, `LD (HL),d8`, `LD (a16),A`, `LDH (a8),A` (R143, R147, R148, R158,
R144, R154, R156): the operand bytes, then one write. -/
def Obligations.StoreToBus : Prop :=
  (∀ r, r ≠ .indHl → Runs .t0 (0x70 + number r) (.ldIndHlR r) ∧
    ∀ s, exec (.ldIndHlR r) s = done (afterWrite (hl s.rf) (register s.rf r) s) s.rf 0) ∧
  (Runs .t0 0x02 .ldIndBcA ∧ ∀ s, exec .ldIndBcA s = done (afterWrite (word s.rf.b s.rf.c) s.rf.a s) s.rf 0) ∧
  (Runs .t0 0x12 .ldIndDeA ∧ ∀ s, exec .ldIndDeA s = done (afterWrite (word s.rf.d s.rf.e) s.rf.a s) s.rf 0) ∧
  (Runs .t0 0xE2 .ldIndCA ∧ ∀ s, exec .ldIndCA s = done (afterWrite (page s.rf.c) s.rf.a s) s.rf 0) ∧
  (Runs8 0x36 .ldIndHlD8 ∧ ∀ s v, exec (.ldIndHlD8 v) s = done (afterWrite (hl s.rf) v s) s.rf 0) ∧
  (Runs16 0xEA .ldIndA16A ∧ ∀ s a, exec (.ldIndA16A a) s = done (afterWrite a s.rf.a s) s.rf 0) ∧
  (Runs8 0xE0 .ldhIndA8A ∧ ∀ s n, exec (.ldhIndA8A n) s = done (afterWrite (page n) s.rf.a s) s.rf 0)

/-- `LD A,(HL+)`, `LD A,(HL-)`, `LD (HL+),A`, `LD (HL-),A` (R149 to R152): the access at the old HL, then HL steps
modulo 2^16. -/
def Obligations.LoadStoreStepHl : Prop :=
  (Runs .t0 0x2A .ldAIndHlInc ∧ ∀ s, exec .ldAIndHlInc s = done (afterRead (hl s.rf) s)
    (withPair { s.rf with a := s.bus.answer (hl s.rf) } .hl (BitVec.ofNat 16 ((hl s.rf).toNat + 1))) 0) ∧
  (Runs .t0 0x3A .ldAIndHlDec ∧ ∀ s, exec .ldAIndHlDec s = done (afterRead (hl s.rf) s)
    (withPair { s.rf with a := s.bus.answer (hl s.rf) } .hl (BitVec.ofNat 16 ((hl s.rf).toNat + 65535))) 0) ∧
  (Runs .t0 0x22 .ldIndHlIncA ∧ ∀ s, exec .ldIndHlIncA s = done (afterWrite (hl s.rf) s.rf.a s)
    (withPair s.rf .hl (BitVec.ofNat 16 ((hl s.rf).toNat + 1))) 0) ∧
  (Runs .t0 0x32 .ldIndHlDecA ∧ ∀ s, exec .ldIndHlDecA s = done (afterWrite (hl s.rf) s.rf.a s)
    (withPair s.rf .hl (BitVec.ofNat 16 ((hl s.rf).toNat + 65535))) 0)

/-! ## 16-bit loads and the stack (43_load16_stack.md) -/

/-- `LD rr,d16`, `LD SP,HL`, `LD (a16),SP` (R170, R172, R171): the store puts the low byte at the address, then the high byte
at the next one modulo 2^16. -/
def Obligations.LoadPairStoreStackPointer : Prop :=
  (∀ p, Runs16 (0x01 + 16 * pairNumber p) (.ldRrD16 p) ∧
    ∀ s v, exec (.ldRrD16 p v) s = done s (withPair s.rf p v) 0) ∧
  (Runs .t0 0xF9 .ldSpHl ∧ ∀ s, exec .ldSpHl s = done s { s.rf with sp := hl s.rf } 0) ∧
  Runs16 0x08 .ldIndA16Sp ∧
  ∀ s a, exec (.ldIndA16Sp a) s =
    done (afterWrite (BitVec.ofNat 16 (a.toNat + 1)) (high s.rf.sp) (afterWrite a (low s.rf.sp) s)) s.rf 0

/-- `LD HL,SP+e8` and `ADD SP,e8` (R173, R223, and the primitive of 40_primitives.md R110). -/
def Obligations.StackPointerPlusDisplacement : Prop :=
  (Runs8 0xF8 .ldHlSpE8 ∧ ∀ s e, exec (.ldHlSpE8 e) s =
    done s (withPair { s.rf with f := displacedFlags s.rf e } .hl (displaced s.rf.sp e)) 0) ∧
  (Runs8 0xE8 .addSpE8 ∧ ∀ s e, exec (.addSpE8 e) s =
    done s { s.rf with f := displacedFlags s.rf e, sp := displaced s.rf.sp e } 0)

/-- `PUSH rr` (R174): SP down and the high byte, SP down and the low byte. -/
def Obligations.PushPair : Prop :=
  ∀ p, Runs .t0 (0xC5 + 16 * stackPairNumber p) (.pushRr p) ∧
    ∀ s, exec (.pushRr p) s =
      done (afterWrite (s.rf.sp - 2) (low (stackPair s.rf p)) (afterWrite (s.rf.sp - 1) (high (stackPair s.rf p)) s))
        { s.rf with sp := s.rf.sp - 2 } 0

/-- `POP rr` (R175): the low byte at SP, the high byte at SP + 1; F keeps its high nibble only. -/
def Obligations.PopPair : Prop :=
  ∀ p, Runs .t0 (0xC1 + 16 * stackPairNumber p) (.popRr p) ∧
    ∀ s, exec (.popRr p) s =
      done (afterRead (s.rf.sp + 1) (afterRead s.rf.sp s))
        (withStackPair { s.rf with sp := s.rf.sp + 2 } p
          (word ((afterRead s.rf.sp s).bus.answer (s.rf.sp + 1)) (s.bus.answer s.rf.sp))) 0

/-- On a plain RAM a pop undoes a push of the same pair, and a return undoes a call: every register is back (R126,
"`Pop16` undoes it"; R175, "`PUSH AF` then `POP AF` restores A and F exactly"). -/
def Obligations.PopUndoesPush : Prop :=
  ∀ s t u, PlainRam s → s.rf.f &&& 0x0F#8 = 0#8 →
    (∀ p, exec (.pushRr p) s = .next t → exec (.popRr p) t = .next u → u.rf = s.rf) ∧
    (∀ a, exec (.callA16 a) s = .next t → exec .ret t = .next u → u.rf = s.rf)

/-! ## 8-bit arithmetic and logic (44_alu8.md) -/

/-- `ADD A,r`, `ADD A,(HL)`, `ADD A,d8` (R180 to R182; R91). -/
def Obligations.AddToAccumulator : Prop := Accumulates 0 (added false) .addAR .addAIndHl .addAD8

/-- `ADC A,r`, `ADC A,(HL)`, `ADC A,d8` (R183 to R185): the carry is the third term of one sum. The three-term reading
is the spec's decision D14. -/
def Obligations.AddWithCarry : Prop :=
  Accumulates 1 (fun r v => added (cOf r) r v) .adcAR .adcAIndHl .adcAD8

/-- `SUB r`, `SUB (HL)`, `SUB d8` (R186 to R188; R92). -/
def Obligations.SubtractFromAccumulator : Prop := Accumulates 2 (subtracted false) .subR .subIndHl .subD8

/-- `SBC A,r`, `SBC A,(HL)`, `SBC A,d8` (R189 to R191): the borrow is the third term. The three-term reading is the
spec's decision D14. -/
def Obligations.SubtractWithBorrow : Prop :=
  Accumulates 3 (fun r v => subtracted (cOf r) r v) .sbcAR .sbcAIndHl .sbcAD8

/-- `AND`, `XOR`, `OR`, each in three forms (R192 to R200; R95 to R97). -/
def Obligations.LogicOnAccumulator : Prop :=
  Accumulates 4 (logical Nat.land true) .andR .andIndHl .andD8 ∧
  Accumulates 5 (logical Nat.xor false) .xorR .xorIndHl .xorD8 ∧
  Accumulates 6 (logical Nat.lor false) .orR .orIndHl .orD8

/-- `CP r`, `CP (HL)`, `CP d8` (R201 to R203): the flags of the subtraction, A as it was. -/
def Obligations.CompareWithAccumulator : Prop := Accumulates 7 compared .cpR .cpIndHl .cpD8

/-- `INC r`, `INC (HL)`, `DEC r`, `DEC (HL)` (R204 to R207): C is unchanged. -/
def Obligations.IncrementDecrement : Prop :=
  Replaces .t0 0x04 8 (fun _ x => BitVec.ofNat 8 (x.toNat + 1)) incrementFlags .incR .incIndHl ∧
  Replaces .t0 0x05 8 (fun _ x => BitVec.ofNat 8 (x.toNat + 255)) decrementFlags .decR .decIndHl

/-- `DAA` (R208). The correction table is the spec's decision D15. -/
def Obligations.DecimalAdjust : Prop :=
  Runs .t0 0x27 .daa ∧ ∀ s, exec .daa s = done s (adjusted s.rf) 0

/-- `DAA` after `ADC A,d8` of two packed-BCD bytes gives the two low digits of the decimal sum and the carry out; after
`SBC A,d8` the decimal difference and the borrow. A consequence of the spec's decision D15. -/
def Obligations.DecimalArithmetic : Prop :=
  ∀ x y, x < 100 → y < 100 → ∀ s t u, s.rf.a = bcd x →
    (exec (.adcAD8 (bcd y)) s = .next t → exec .daa t = .next u →
      u.rf.a = bcd ((x + y + (cOf s.rf).toNat) % 100) ∧ cOf u.rf = decide (100 ≤ x + y + (cOf s.rf).toNat)) ∧
    (exec (.sbcAD8 (bcd y)) s = .next t → exec .daa t = .next u →
      u.rf.a = bcd ((100 + x - y + 100 - (cOf s.rf).toNat) % 100) ∧
      cOf u.rf = decide (x < y + (cOf s.rf).toNat))

/-- `CPL`, `SCF`, `CCF` (R209 to R211). -/
def Obligations.ComplementAndCarryFlag : Prop :=
  (Runs .t0 0x2F .cpl ∧ ∀ s, exec .cpl s = done s
    { s.rf with a := BitVec.ofNat 8 (255 - s.rf.a.toNat), f := flagByte (zOf s.rf) true true (cOf s.rf) } 0) ∧
  (Runs .t0 0x37 .scf ∧ ∀ s, exec .scf s = done s { s.rf with f := flagByte (zOf s.rf) false false true } 0) ∧
  (Runs .t0 0x3F .ccf ∧ ∀ s, exec .ccf s = done s { s.rf with f := flagByte (zOf s.rf) false false (!cOf s.rf) } 0)

/-! ## 16-bit arithmetic (45_alu16.md) -/

/-- `ADD HL,rr` (R220): H from bit 11, C from bit 15, Z unchanged. -/
def Obligations.AddPairToHl : Prop :=
  ∀ p, Runs .t0 (0x09 + 16 * pairNumber p) (.addHlRr p) ∧
    ∀ s, exec (.addHlRr p) s = done s
      (withPair
        { s.rf with f := pairSumFlags s.rf (pair s.rf p) }
        .hl (BitVec.ofNat 16 ((hl s.rf).toNat + (pair s.rf p).toNat))) 0

/-- `INC rr` and `DEC rr` (R221, R222): no flag is written. -/
def Obligations.IncrementDecrementPair : Prop :=
  ∀ p,
    (Runs .t0 (0x03 + 16 * pairNumber p) (.incRr p) ∧ ∀ s, exec (.incRr p) s =
      done s (withPair s.rf p (BitVec.ofNat 16 ((pair s.rf p).toNat + 1))) 0) ∧
    (Runs .t0 (0x0B + 16 * pairNumber p) (.decRr p) ∧ ∀ s, exec (.decRr p) s =
      done s (withPair s.rf p (BitVec.ofNat 16 ((pair s.rf p).toNat + 65535))) 0)

/-! ## Rotates, shifts, bits (46_rotate_shift_bit.md) -/

/-- `RLCA`, `RRCA`, `RLA`, `RRA`, whose Z is always 0 (R230 to R233), and `RLC`, `RRC`, `RL`, `RR` on a register and on `(HL)`
(R234 to R241). -/
def Obligations.RotateResults : Prop :=
  (Runs .t0 0x07 .rlca ∧ ∀ s, exec .rlca s =
    done s { shiftedFlags rotateLeft false s.rf s.rf.a with a := shifted rotateLeft s.rf s.rf.a } 0) ∧
  (Runs .t0 0x0F .rrca ∧ ∀ s, exec .rrca s =
    done s { shiftedFlags rotateRight false s.rf s.rf.a with a := shifted rotateRight s.rf s.rf.a } 0) ∧
  (Runs .t0 0x17 .rla ∧ ∀ s, exec .rla s =
    done s { shiftedFlags rotateLeftCarry false s.rf s.rf.a with a := shifted rotateLeftCarry s.rf s.rf.a } 0) ∧
  (Runs .t0 0x1F .rra ∧ ∀ s, exec .rra s =
    done s { shiftedFlags rotateRightCarry false s.rf s.rf.a with a := shifted rotateRightCarry s.rf s.rf.a } 0) ∧
  Shifts 0 rotateLeft .rlcR .rlcIndHl ∧ Shifts 1 rotateRight .rrcR .rrcIndHl ∧
  Shifts 2 rotateLeftCarry .rlR .rlIndHl ∧ Shifts 3 rotateRightCarry .rrR .rrIndHl

/-- `SLA`, `SRA`, `SWAP`, `SRL` on a register and on `(HL)` (R242 to R249). -/
def Obligations.ShiftsAndSwap : Prop :=
  Shifts 4 shiftLeft .slaR .slaIndHl ∧ Shifts 5 shiftRightSigned .sraR .sraIndHl ∧
  Shifts 6 swapNibbles .swapR .swapIndHl ∧ Shifts 7 shiftRight .srlR .srlIndHl

/-- `BIT b,r` and `BIT b,(HL)` (R250, R251): Z is the complement of the bit; nothing is written but the flags. -/
def Obligations.BitTest : Prop :=
  ∀ b : BitVec 3,
    (∀ r, r ≠ .indHl → Runs .t1 (0x40 + 8 * b.toNat + number r) (.bitR b r) ∧
      ∀ s, exec (.bitR b r) s = done s
        { s.rf with f := flagByte ((register s.rf r).toNat / 2 ^ b.toNat % 2 == 0) false true (cOf s.rf) } 0) ∧
    Runs .t1 (0x46 + 8 * b.toNat) (.bitIndHl b) ∧
    ∀ s, exec (.bitIndHl b) s = done (afterRead (hl s.rf) s)
      { s.rf with f := flagByte ((s.bus.answer (hl s.rf)).toNat / 2 ^ b.toNat % 2 == 0) false true (cOf s.rf) } 0

/-- `RES b` and `SET b` on a register and on `(HL)` (R252 to R255): bit `b` becomes 0 or 1, the other bits and the flags
stay. -/
def Obligations.BitResetSet : Prop :=
  ∀ b : BitVec 3,
    Replaces .t1 (0x80 + 8 * b.toNat) 1
      (fun _ x => BitVec.ofNat 8 (x.toNat - x.toNat / 2 ^ b.toNat % 2 * 2 ^ b.toNat)) (fun r _ => r) (.resR b) (.resIndHl b) ∧
    Replaces .t1 (0xC0 + 8 * b.toNat) 1
      (fun _ x => BitVec.ofNat 8 (x.toNat + (1 - x.toNat / 2 ^ b.toNat % 2) * 2 ^ b.toNat)) (fun r _ => r) (.setR b) (.setIndHl b)

/-! ## Control transfer (47_control.md) -/

/-- `JP a16`, `JP cc,a16`, `JP HL`, `JR e8`, `JR cc,e8` (R270 to R274): taken or not, the operand bytes are fetched; a
relative target counts from the address of the next instruction. The extra cycles of a taken conditional form are the
spec's decision D16 (log 5). -/
def Obligations.JumpTargets : Prop :=
  (Runs16 0xC3 .jpA16 ∧ ∀ s a, exec (.jpA16 a) s = done s { s.rf with pc := a } 0) ∧
  (∀ cc, Runs16 (0xC2 + 8 * conditionNumber cc) (.jpCcA16 cc) ∧
    ∀ s a, exec (.jpCcA16 cc a) s = if holds s.rf cc then done s { s.rf with pc := a } 4 else done s s.rf 0) ∧
  (Runs .t0 0xE9 .jpHl ∧ ∀ s, exec .jpHl s = done s { s.rf with pc := hl s.rf } 0) ∧
  (Runs8 0x18 .jrE8 ∧ ∀ s e, exec (.jrE8 e) s = done s { s.rf with pc := displaced s.rf.pc e } 0) ∧
  (∀ cc, Runs8 (0x20 + 8 * conditionNumber cc) (.jrCcE8 cc) ∧
    ∀ s e, exec (.jrCcE8 cc e) s =
      if holds s.rf cc then done s { s.rf with pc := displaced s.rf.pc e } 4 else done s s.rf 0)

/-- `CALL a16`, `CALL cc,a16`, `RST t` (R275, R276, R280): the address of the next instruction is pushed. The
extra cycles of a taken `CALL cc` are the spec's decision D16 (log 5). -/
def Obligations.CallPushesReturnAddress : Prop :=
  (Runs16 0xCD .callA16 ∧ ∀ s a, exec (.callA16 a) s = called s a 0) ∧
  (∀ cc, Runs16 (0xC4 + 8 * conditionNumber cc) (.callCcA16 cc) ∧
    ∀ s a, exec (.callCcA16 cc a) s = if holds s.rf cc then called s a 12 else done s s.rf 0) ∧
  (∀ t : BitVec 3, Runs .t0 (0xC7 + 8 * t.toNat) (.rstT t) ∧
    ∀ s, exec (.rstT t) s = called s (BitVec.ofNat 16 (8 * t.toNat)) 0)

/-- `RET` and `RET cc` (R277, R278): not taken, nothing is read. The extra cycles of a taken `RET cc` are the spec's
decision D16 (log 5). -/
def Obligations.ReturnReadsStack : Prop :=
  (Runs .t0 0xC9 .ret ∧ ∀ s, exec .ret s = returned s 0) ∧
  (∀ cc, Runs .t0 (0xC0 + 8 * conditionNumber cc) (.retCc cc) ∧
    ∀ s, exec (.retCc cc) s = if holds s.rf cc then returned s 12 else done s s.rf 0)

/-! ## NOP and the faults (48_system.md, 60_exceptions.md) -/

/-- `NOP` does nothing (R290); `STOP` and `HALT` latch the fault and do nothing else (R291, R292). That a fault is a next state
with the latch set is the model's form of it (log 7). -/
def Obligations.NopStopHalt : Prop :=
  (Runs .t0 0x00 .nop ∧ ∀ s, exec .nop s = done s s.rf 0) ∧ Faults 0x10 .stop ∧ Faults 0x76 .halt

/-- `DI`, `EI`, `RETI`, `PREFIX CB` and the eleven undefined opcodes fault the same way. The spec's decisions D7, D8,
D9. -/
def Obligations.StubsAndUndefinedFault : Prop :=
  Faults 0xF3 .di ∧ Faults 0xFB .ei ∧ Faults 0xD9 .reti ∧ Faults 0xCB .prefixCb ∧
  Faults 0xD3 .illegalD3 ∧ Faults 0xDB .illegalDB ∧ Faults 0xDD .illegalDD ∧ Faults 0xE3 .illegalE3 ∧
  Faults 0xE4 .illegalE4 ∧ Faults 0xEB .illegalEB ∧ Faults 0xEC .illegalEC ∧ Faults 0xED .illegalED ∧
  Faults 0xF4 .illegalF4 ∧ Faults 0xFC .illegalFC ∧ Faults 0xFD .illegalFD

/-- The whole of a fault at a step (R310): a step faults exactly when the byte at PC is one of the sixteen; then PC is
one further, that byte's read is the only bus call, the countdown is 0, the latch holds the record, and nothing else
has changed. Which opcodes fault rests on the spec's decisions D7 and D9; that the fault is a next state with the latch
set is the model's form of it (log 7). What a step does after a fault is `TickBranches`. -/
def Obligations.StepFaults : Prop :=
  ∀ s, s.fault = none →
    let op := s.bus.answer s.rf.pc
    let faulted := { afterFetch s with countdown := 0, fault := some (.unimplementedOpcode .t0 op) }
    (op ∈ faultingOpcodes → step s = .next faulted) ∧
    ∀ t, step s = .next t → t.fault ≠ none → op ∈ faultingOpcodes ∧ t = faulted

/-- No instruction, no step and no tick stops the model: each answers a next state (R307). A fault is
a next state too, which is the model's form of it (log 7). -/
def Obligations.NothingStops : Prop :=
  (∀ i s, ∃ t, exec i s = .next t) ∧ ∀ s, (∃ t, step s = .next t) ∧ ∃ t, tick s = .next t

/-! ## What an instruction leaves alone, over all instructions -/

/-- Every byte register but F, SP and PC: unchanged unless the instruction's rule writes it. -/
def Obligations.FrameRegisters : Prop :=
  ∀ i s t, exec i s = .next t →
    (∀ r : Id8, r ≠ .f → r ∉ destinations i → t.rf.get8 r = s.rf.get8 r) ∧
    (writesSp i = false → t.rf.sp = s.rf.sp) ∧
    (transfers i = false → t.rf.pc = s.rf.pc)

/-- Every flag: unchanged unless the instruction's rule writes it (the table of R116); an instruction that writes none
leaves F whole. -/
def Obligations.FrameFlags : Prop :=
  ∀ i s t, exec i s = .next t →
    ((flagsWritten i).1 = false → zOf t.rf = zOf s.rf) ∧
    ((flagsWritten i).2.1 = false → nOf t.rf = nOf s.rf) ∧
    ((flagsWritten i).2.2.1 = false → hOf t.rf = hOf s.rf) ∧
    ((flagsWritten i).2.2.2 = false → cOf t.rf = cOf s.rf) ∧
    (flagsWritten i = (false, false, false, false) → t.rf.f = s.rf.f)

/-- Every byte of the bus content: unchanged unless the instruction stores to its address (the writes of R46, each
address computed from the registers the instruction starts with). -/
def Obligations.FrameMemory : Prop :=
  ∀ i s t, exec i s = .next t →
    ∀ a : Nat, (∀ w ∈ stores i s.rf, a ≠ w.toNat) → Memory.read t.bus.mem a = Memory.read s.bus.mem a

/-- The engine's own state: no instruction writes the countdown or the timing table, and only the seventeen that fault
write the latch (R21, R23, R304; a fault as a next state is the model's form, log 7); the extra cycles are those of R128,
whose amounts are the spec's decision D16 (log 5). -/
def Obligations.FrameEngine : Prop :=
  ∀ i s t, exec i s = .next t →
    t.countdown = s.countdown ∧ t.timing = s.timing ∧ (stubbed i = false → t.fault = s.fault ∧ t.extra = extraCycles i s.rf)

/-- The bus calls of every instruction are those of the table of R46, each once, in order, and nothing else. The table is
marked derived by the spec; the log that shows them is the model's (log 14). -/
def Obligations.BusAccesses : Prop :=
  ∀ i s t, exec i s = .next t →
    ∃ calls, t.bus.log = calls ++ s.bus.log ∧ calls.reverse.map accessOf = accesses i s.rf

/-- N and H are read by `DAA` and `PUSH AF` only (R13): any other instruction, run from two states that differ in N and
H alone, does the same to everything but N and H. The spec marks the sentence as derived. -/
def Obligations.OnlyDaaAndPushReadNH : Prop :=
  ∀ i s q t u, i ≠ .daa → i ≠ .pushRr .af → AlikeButNH s.rf q →
    exec i s = .next t → exec i { s with rf := q } = .next u →
    AlikeButNH t.rf u.rf ∧ u = { t with rf := u.rf }

/-- The `r8` accessor is total (R125): a register form with operand number 6 would do what the `(HL)` form does. No decoded
instruction has that operand (log 9). -/
def Obligations.OperandSixIsHl : Prop :=
  ∀ s, (∀ r, exec (.ldRR .indHl r) s = exec (.ldIndHlR r) s) ∧ (∀ dst, exec (.ldRR dst .indHl) s = exec (.ldRIndHl dst) s) ∧
    (∀ v, exec (.ldRD8 .indHl v) s = exec (.ldIndHlD8 v) s) ∧
    exec (.addAR .indHl) s = exec .addAIndHl s ∧ exec (.adcAR .indHl) s = exec .adcAIndHl s ∧
    exec (.subR .indHl) s = exec .subIndHl s ∧ exec (.sbcAR .indHl) s = exec .sbcAIndHl s ∧
    exec (.andR .indHl) s = exec .andIndHl s ∧ exec (.xorR .indHl) s = exec .xorIndHl s ∧
    exec (.orR .indHl) s = exec .orIndHl s ∧ exec (.cpR .indHl) s = exec .cpIndHl s ∧
    exec (.incR .indHl) s = exec .incIndHl s ∧ exec (.decR .indHl) s = exec .decIndHl s ∧
    exec (.rlcR .indHl) s = exec .rlcIndHl s ∧ exec (.rrcR .indHl) s = exec .rrcIndHl s ∧
    exec (.rlR .indHl) s = exec .rlIndHl s ∧ exec (.rrR .indHl) s = exec .rrIndHl s ∧
    exec (.slaR .indHl) s = exec .slaIndHl s ∧ exec (.sraR .indHl) s = exec .sraIndHl s ∧
    exec (.swapR .indHl) s = exec .swapIndHl s ∧ exec (.srlR .indHl) s = exec .srlIndHl s ∧
    ∀ b, exec (.bitR b .indHl) s = exec (.bitIndHl b) s ∧ exec (.resR b .indHl) s = exec (.resIndHl b) s ∧
      exec (.setR b .indHl) s = exec (.setIndHl b) s

/-! ## The step and the tick (41_engine.md) -/

/-- A step runs the decoded instruction: when the next `n` bytes the bus answers at PC decode to `i`, the step is `exec`
of `i` in the state after those `n` reads, PC past them, and then its cost is in the countdown. On a bus that answers
from its content those bytes are the content at PC and on, modulo 2^16. The step is the instruction-level step (log 6); that
one which faults is a next state with the latch set is the model's form (log 7). -/
def Obligations.StepRunsDecoded : Prop :=
  (∀ s i n, s.fault = none → decode (coming n s) = .ok i [] →
    step s = withCost (baseCost s.timing (coming n s)) (exec i (fetched n { s with countdown := 0 }))) ∧
  ∀ s n, s.bus.replies = [] →
    coming n s = (List.range n).map fun k => Memory.read s.bus.mem (s.rf.pc + BitVec.ofNat 16 k).toNat

/-- The prefix byte selects table 1 for the byte after it; every other byte is dispatched in table 0 (R67, R129). -/
def Obligations.PrefixSelectsTable : Prop :=
  ∀ s, s.fault = none →
    let s0 := { s with countdown := 0 }
    (s.bus.answer s.rf.pc = 0xCB#8 →
      let op := (afterFetch s).bus.answer (s.rf.pc + 1)
      step s = withCost (s.timing.t1.getD op.toNat 0) (execute .t1 op (afterFetch (afterFetch s0)))) ∧
    (s.bus.answer s.rf.pc ≠ 0xCB#8 →
      let op := s.bus.answer s.rf.pc
      step s = withCost (s.timing.t0.getD op.toNat 0) (execute .t0 op (afterFetch s0)))

/-- An instruction that is no control transfer leaves PC at the address after its last byte (R18). -/
def Obligations.PcPassesInstruction : Prop :=
  ∀ s i n, s.fault = none → decode (coming n s) = .ok i [] → transfers i = false →
    ∃ t, step s = .next t ∧ t.rf.pc = s.rf.pc + BitVec.ofNat 16 n

/-- The three branches of the tick (R129, R133): nothing while a fault is latched, and a step does nothing then either (R22;
the spec's decision D17; that it answers the same state as a next state is the model's form, log 7); one off an active
countdown (D18) and nothing else; at countdown 0 the step. -/
def Obligations.TickBranches : Prop :=
  ∀ s,
    (s.fault ≠ none → step s = .next s ∧ tick s = .next s) ∧
    (s.fault = none → (∀ n, s.countdown = n + 1 → tick s = .next { s with countdown := n }) ∧
      (s.countdown = 0 → tick s = step s))

/-- The tick loop is the step, stuttered (R130): the ticks of the countdown and one more are one step. -/
def Obligations.TicksAreOneStep : Prop :=
  ∀ s, s.fault = none → ticks (s.countdown + 1) s = step s

/-- Timing changes no architectural result (R326): from two states that differ in the timing table, the countdown and
the extra cycles only, a step gives the same registers, bus and latch. -/
def Obligations.TimingIsInvisible : Prop :=
  ∀ s tm c x t u, s.fault = none → step s = .next t →
    step { s with timing := tm, countdown := c, extra := x } = .next u →
    u.rf = t.rf ∧ u.bus = t.bus ∧ u.fault = t.fault

/-! ## Registers, bus, reset, invariant -/

/-- The Register File accessors (R11 to R13): F loses its low nibble on every path, a pair is high byte and low byte,
and a flag write replaces one bit. -/
def Obligations.RegisterFile : Prop :=
  ∀ r : RegFile,
    (∀ v, (r.set8 .f v) = { r with f := BitVec.ofNat 8 (16 * (v.toNat / 16)) }) ∧
    (r.get16 .af = word r.a r.f ∧ r.get16 .bc = word r.b r.c ∧ r.get16 .de = word r.d r.e ∧ r.get16 .hl = word r.h r.l) ∧
    (∀ v, r.set16 .af v = { r with a := high v, f := BitVec.ofNat 8 (16 * (v.toNat % 256 / 16)) } ∧
      r.set16 .bc v = { r with b := high v, c := low v } ∧ r.set16 .de v = { r with d := high v, e := low v } ∧
      r.set16 .hl v = { r with h := high v, l := low v }) ∧
    (r.flagZ = zOf r ∧ r.flagN = nOf r ∧ r.flagH = hOf r ∧ r.flagC = cOf r) ∧
    ∀ v, r.setZ v = { r with f := flagByte v (nOf r) (hOf r) (cOf r) } ∧
      r.setN v = { r with f := flagByte (zOf r) v (hOf r) (cOf r) } ∧
      r.setH v = { r with f := flagByte (zOf r) (nOf r) v (cOf r) } ∧
      r.setC v = { r with f := flagByte (zOf r) (nOf r) (hOf r) v }

/-- A bus call (R30, R36): a read answers the bus's reply where it has one, else the content, and is recorded; a write is
recorded; neither touches anything outside the bus. On a plain RAM a read gives the byte last written to its address and
every other byte is as it was, and a store is seen by the very next fetch from it (R40, R43). The reply
list and the log are the model's form of the spec's oracle (log 1, log 14). -/
def Obligations.BusCalls : Prop :=
  ∀ s a,
    (∀ v rest, s.bus.replies = some v :: rest → (s.memRead a).1 = v) ∧
    (s.bus.replies = [] ∨ (∃ rest, s.bus.replies = none :: rest) → (s.memRead a).1 = Memory.read s.bus.mem a.toNat) ∧
    (s.memRead a).2 = afterRead a s ∧ (∀ v, s.memWrite a v = afterWrite a v s) ∧
    (PlainRam s → ∀ v, PlainRam (s.memWrite a v) ∧ ((s.memWrite a v).memRead a).1 = v ∧
      (∀ b, b ≠ a → ((s.memWrite a v).memRead b).1 = (s.memRead b).1) ∧ ((s.memWrite s.rf.pc v).fetch8).1 = v)

/-- The state after reset (R27, R320): every register 0, ready to fetch, no fault. The values are the spec's decision D12
(log 3); the all-zero timing table and the empty bus are the model's choices (log 1, log 2, log 4). -/
def Obligations.ResetState : Prop :=
  let s := State.reset
  s.rf.a = 0 ∧ s.rf.f = 0 ∧ s.rf.b = 0 ∧ s.rf.c = 0 ∧ s.rf.d = 0 ∧ s.rf.e = 0 ∧ s.rf.h = 0 ∧ s.rf.l = 0 ∧
  s.rf.sp = 0 ∧ s.rf.pc = 0 ∧ s.countdown = 0 ∧ s.fault = none ∧
  (∀ a, Memory.read s.bus.mem a = 0) ∧ (∀ t op, Timing.base s.timing t op = 0)

/-- A Processor constructed with any register file whose F has a zero low nibble, any timing table and any bus in
canonical form satisfies the invariant; so does the reset state (R11, R320). -/
def Obligations.ConstructedSatisfiesInvariant : Prop :=
  (∀ rf tm bus, rf.f &&& 0x0F#8 = 0#8 → Memory.wf bus.mem = true → Invariant (State.construct rf tm bus)) ∧ Invariant State.reset

/-- Every step and every tick keeps the invariant: F's low nibble is 0, the bus content is in canonical form, a faulted
Processor has countdown 0, and the fault is an `UnimplementedOpcodeError` of table 0 (R11, R304, R310). That a faulted
Processor still steps, to the same state, is the model's form of a fault (log 7). -/
def Obligations.StepKeepsInvariant : Prop :=
  ∀ s t, Invariant s → step s = .next t ∨ tick s = .next t → Invariant t

/-! ## Decoding (30_encoding.md) -/

/-- Words written out from the templates, one or two of every family, decode to the instruction they stand for. -/
def Obligations.DecodedWords : Prop :=
  decode [0b01000111#8] = .ok (.ldRR .b .a) [] ∧
  decode [0b00111110#8, 0x05#8] = .ok (.ldRD8 .a 0x05#8) [] ∧
  decode [0b11101010#8, 0x34#8, 0xC2#8] = .ok (.ldIndA16A 0xC234#16) [] ∧
  decode [0b00110001#8, 0xFE#8, 0xFF#8] = .ok (.ldRrD16 .sp 0xFFFE#16) [] ∧
  decode [0b11110101#8] = .ok (.pushRr .af) [] ∧
  decode [0b11000110#8, 0x03#8] = .ok (.addAD8 0x03#8) [] ∧
  decode [0b10111110#8] = .ok .cpIndHl [] ∧
  decode [0b00101001#8] = .ok (.addHlRr .hl) [] ∧
  decode [0b00010111#8] = .ok .rla [] ∧
  decode [0xCB#8, 0b00110111#8] = .ok (.swapR .a) [] ∧
  decode [0xCB#8, 0b01111110#8] = .ok (.bitIndHl 7#3) [] ∧
  decode [0xCB#8, 0b11001011#8] = .ok (.setR 1#3 .e) [] ∧
  decode [0b11011010#8, 0x34#8, 0x12#8] = .ok (.jpCcA16 .c 0x1234#16) [] ∧
  decode [0b11111111#8] = .ok (.rstT 7#3) [] ∧
  decode [0b01110110#8] = .ok .halt []

/-- The decoder takes the matching row with the most constant bits (R63). -/
def Obligations.DecodeIsMostSpecific : Prop :=
  ∀ (rows : List Row) (b : Byte),
    (∀ r, mostSpecific rows b = some r →
      r ∈ rows ∧ r.test b = true ∧ ∀ q ∈ rows, q.test b = true → popcount q.mask ≤ popcount r.mask) ∧
    (mostSpecific rows b = none → ∀ q ∈ rows, q.test b = false)

/-- Full coverage (R78, checked there by enumeration): every byte decodes in both tables. -/
def Obligations.FullCoverage : Prop := ∀ t b, ∃ f, decodeOpcode t b = some f

/-- Decoding the encoding of a well-formed instruction gives it back, with whatever bytes follow left over. -/
def Obligations.DecodeOfEncode : Prop :=
  ∀ i rest, WellFormed i = true → decode (encode i ++ rest) = .ok i rest

/-- Every byte sequence that decodes is the encoding of the instruction it decodes to, which is well-formed: no two
instructions share a word. -/
def Obligations.EncodeOfDecode : Prop :=
  ∀ bytes i rest, decode bytes = .ok i rest → WellFormed i = true ∧ encode i ++ rest = bytes

/-- A parsed template is its text (R50, R51, R54, R55): it accepts exactly the bytes that agree with the text's constant
characters; its constant positions are those of the text; the positions of a letter in the text are exactly the bits of
the one field of that name; and a field's value is its bits, right-justified. -/
def Obligations.TemplateTestAndFields : Prop :=
  ∀ text t, parseTemplate text = .ok t →
    t.sourceText = text ∧
    (∀ b : Byte, t.test b = true ↔ ∀ i, i < 8 →
      (text.toList[i]? = some '0' → b.getLsbD (7 - i) = false) ∧ (text.toList[i]? = some '1' → b.getLsbD (7 - i) = true)) ∧
    (∀ i, i < 8 → (t.constMask.getLsbD (7 - i) = true ↔ text.toList[i]? = some '0' ∨ text.toList[i]? = some '1')) ∧
    (∀ ch i, Spec.isLetter ch → i < 8 →
      (text.toList[i]? = some ch ↔ ∃ f ∈ t.fields, f.name = ch ∧ f.mask.getLsbD (7 - i) = true)) ∧
    ∀ f ∈ t.fields, Spec.isLetter f.name ∧ 0 < f.bitWidth ∧
      f.bitWidth ≤ f.mostSignificantBitIndex + 1 ∧ f.mostSignificantBitIndex < 8 ∧
      (∀ k, k < 8 → (f.mask.getLsbD k = true ↔
        f.mostSignificantBitIndex + 1 - f.bitWidth ≤ k ∧ k ≤ f.mostSignificantBitIndex)) ∧
      (∀ g ∈ t.fields, g.name = f.name → g = f) ∧
      ∀ b : Byte,
        f.extract b = b.toNat / 2 ^ (f.mostSignificantBitIndex + 1 - f.bitWidth) % 2 ^ f.bitWidth ∧
        t.field b f.name = f.extract b

/-- Registration refuses by name, and refuses nothing else (R52, R53, R58, R61, R301, R302, R309). `TemplateParseError`: a
text that is not eight characters long, or whose first offending character is outside the alphabet (decision D2, which
also gives the order of the checks). `DuplicateOpcodeError`: a text whose first offending character is a letter that comes
back after its field closed (decision D1); a constant byte that is taken (R58); a non-constant template with the mask and
value of one in the forest (decision D3). A text of eight characters with no offending one parses, and a template that is
no such duplicate is registered. -/
def Obligations.RegistrationRefusals : Prop :=
  (∀ (ip : Interpreter) text h t, text.toList.length ≠ 8 →
    ip.addInstruction text h t = .error (.templateParse t text)) ∧
  (∀ (ip : Interpreter) text h t pre ch post, text.toList.length = 8 → text.toList = pre ++ ch :: post →
    Spec.NoOffence pre → ch ≠ '0' → ch ≠ '1' → ¬ Spec.isLetter ch →
    ip.addInstruction text h t = .error (.templateParse t text)) ∧
  (∀ (ip : Interpreter) text h t pre ch post, text.toList.length = 8 → text.toList = pre ++ ch :: post →
    Spec.NoOffence pre → Spec.isLetter ch → ch ∈ pre → pre.getLast? ≠ some ch →
    ip.addInstruction text h t = .error (.duplicateOpcode t text)) ∧
  (∀ text, text.toList.length = 8 → Spec.NoOffence text.toList → ∃ p, parseTemplate text = .ok p) ∧
  (∀ (ip : Interpreter) text h t p q, parseTemplate text = .ok p → p.isFullyConstant = true →
    (p.constVal, q) ∈ (ip.index t).constMap → ip.addInstruction text h t = .error (.duplicateOpcode t text)) ∧
  (∀ (ip : Interpreter) text h t p u, parseTemplate text = .ok p → p.isFullyConstant = false →
    u ∈ Node.templatesList (ip.index t).roots → u.constMask = p.constMask → u.constVal = p.constVal →
    ip.addInstruction text h t = .error (.duplicateOpcode t text)) ∧
  (∀ (ip : Interpreter) text h t p, parseTemplate text = .ok p → p.isFullyConstant = true →
    (∀ q, (p.constVal, q) ∉ (ip.index t).constMap) → ∃ ip', ip.addInstruction text h t = .ok ip') ∧
  (∀ (ip : Interpreter) text h t p, parseTemplate text = .ok p → p.isFullyConstant = false →
    (∀ u ∈ Node.templatesList (ip.index t).roots, ¬ (u.constMask = p.constMask ∧ u.constVal = p.constVal)) →
    ∃ ip', ip.addInstruction text h t = .ok ip')

/-- The three run-time faults over any tables (R121, R303 to R305): no match, a stub, a group template. That a fault
is a next state with the latch set is the model's form of it (log 7). -/
def Obligations.GeneralFaults : Prop :=
  ∀ (ip : Interpreter) t op s,
    ((ip.index t).test op = none →
      ip.execute t op s = .next { s with fault := some (.instructionCoverage t op) }) ∧
    ∀ p, (ip.index t).test op = some p →
      (ip.handler t p.sourceText = some .unimplemented →
        ip.execute t op s = .next { s with fault := some (.unimplementedOpcode t op) }) ∧
      (ip.handler t p.sourceText = some .group →
        ip.execute t op s = .next { s with fault := some (.unreachableDispatch t op) })

/-- The canonical registration is accepted, and the interpreter it builds, whose Pattern Index is the constant map and
the forest, executes every byte of both tables exactly as the machine does (R65, R120, R121). -/
def Obligations.CanonicalInterpreter : Prop :=
  ∃ ip, Interpreter.build canonicalRegistrations = .ok ip ∧
    ∀ t op s, ip.execute t op s = execute t op s

/-- The Pattern Index computes `Decode` (R65), over the set of templates that was registered: where a table is well-formed
(R64), registering its templates one after another, in any order, is never refused and loses none, and the constant map and
the walk of the forest then give on every byte the template of the table that matches with the most constant bits. The spec
marks this as derived and gives a sketch. -/
def Obligations.PatternIndexComputesDecode : Prop :=
  ∀ ts us : List Template, wellFormedTable ts = true → us.Perm ts →
    ∃ ix, us.foldlM PatternIndex.add .empty = some ix ∧ ix.templates.Perm ts ∧
      ∀ b, ix.test b = decodeTemplates ts b

end Statements
end

