-- ==== Sys2Proof/Laws/Construction.lean ====
section
/-! SUPPORT. Everything the construction of the tables can answer: the check of W2 and the template it names, one
registration, and the whole construction. -/

namespace Sys2Proof.Machine

/-! ## The check of W2 (30_encoding.md R64) -/

/-- No template is named exactly where all are related. -/
theorem firstUnrelated_eq_none (ts : List Template) : firstUnrelated ts = none ↔ pairwiseRelated ts = true := by
  induction ts with
  | nil => simp [firstUnrelated, pairwiseRelated]
  | cons t ts ih => by_cases h : ts.all (fun u => superPattern t u || superPattern u t) = true <;>
      simp [firstUnrelated, pairwiseRelated, h, ih]

/-- The template named is in the list, and some other of the list is related to it neither way. -/
theorem firstUnrelated_some {ts : List Template} {p : Template} (h : firstUnrelated ts = some p) :
    p ∈ ts ∧ ∃ q ∈ ts, superPattern p q = false ∧ superPattern q p = false := by
  induction ts with
  | nil => cases h
  | cons t ts ih =>
    simp only [firstUnrelated] at h
    split at h
    · obtain ⟨hp, q, hq, hr⟩ := ih h
      exact ⟨.tail _ hp, q, .tail _ hq, hr⟩
    · next hall =>
      cases h
      simp only [List.all_eq_true, not_forall, Bool.or_eq_true, not_or, Bool.not_eq_true] at hall
      obtain ⟨q, hq, hr⟩ := hall
      exact ⟨.head _, q, .tail _ hq, hr⟩

/-- No template is named exactly where W2 holds at every byte. -/
theorem ambiguousTemplate_eq_none (ts : List Template) :
    ambiguousTemplate ts = none ↔ allBytes.all (chainAt ts) = true := by
  simp only [ambiguousTemplate, List.findSome?_eq_none_iff, List.all_eq_true, chainAt, Bool.or_eq_true]
  refine forall₂_congr fun b _ => ?_
  split
  · next h => simp [h]
  · next h => rw [firstUnrelated_eq_none]; simp [h]

/-- The template named is a non-constant one of the table, and at some byte that no constant takes it matches together
with one it is related to neither way. -/
theorem ambiguousTemplate_some {ts : List Template} {p : Template} (h : ambiguousTemplate ts = some p) :
    p ∈ ts ∧ p.isFullyConstant = false ∧ ∃ b q, q ∈ ts ∧ q.isFullyConstant = false ∧
      p.test b = true ∧ q.test b = true ∧ superPattern p q = false ∧ superPattern q p = false ∧
      ∀ u ∈ ts, ¬ (u.isFullyConstant = true ∧ u.constVal = b) := by
  obtain ⟨b, -, hb⟩ := List.exists_of_findSome?_eq_some h
  split at hb
  · cases hb
  · next hkey =>
    obtain ⟨hp, q, hq, hpq, hqp⟩ := firstUnrelated_some hb
    simp only [List.mem_filter, Bool.and_eq_true, Bool.not_eq_true'] at hp hq
    refine ⟨hp.1, hp.2.1, b, q, hq.1, hq.2.1, hp.2.2, hq.2.2, hpq, hqp, fun u hu hc => hkey ?_⟩
    exact List.any_eq_true.mpr ⟨u, hu, by simp [hc.1, hc.2]⟩

/-- A table is well-formed exactly where W1 holds and the check of W2 names no template. -/
theorem wellFormedTable_iff (ts : List Template) :
    wellFormedTable ts = true ↔ distinctPatterns ts = true ∧ ambiguousTemplate ts = none := by
  rw [wellFormedTable, Bool.and_eq_true, ambiguousTemplate_eq_none]

/-! ## Registration and construction (41_engine.md R120) -/

/-- A registration goes through exactly where the text parses and the index takes the template; the interpreter is then
the old one with both put. -/
theorem addInstruction_ok {ip ip' : Interpreter} {text : String} {h : Handler} {t : TableIx} :
    ip.addInstruction text h t = .ok ip' ↔
      ∃ p ix, parseTemplate text = .ok p ∧ (ip.index t).add p = some ix ∧ ip' = ip.put t ix text h := by
  rw [Interpreter.addInstruction]
  split
  · next e => simp [e]
  · next e => simp [e]
  · next p e =>
    split
    · next a => simp [e, a]
    · next ix a => simp only [e, Except.ok.injEq]
                   exact ⟨fun r => ⟨p, ix, rfl, a, r.symm⟩,
                    fun ⟨_, _, hp, hx, r⟩ => by cases hp; rw [a] at hx; cases hx; exact r.symm⟩

/-- A construction goes through exactly where every registration does and the check of W2 names no template in either
table. -/
theorem build_ok {rs : List Registration} {ip : Interpreter} :
    Interpreter.build rs = .ok ip ↔
      Interpreter.addAll rs .empty = .ok ip ∧ ambiguousTemplate ip.index0.templates = none ∧
        ambiguousTemplate ip.index1.templates = none := by
  rw [Interpreter.build]
  split
  · next e he => simp [he]
  · next ip' he =>
    rw [he]
    cases h0 : ambiguousTemplate ip'.index0.templates <;> cases h1 : ambiguousTemplate ip'.index1.templates <;>
      simp only [Interpreter.ambiguity, Interpreter.index, h0, h1, Option.map_none, Option.map_some] <;>
      constructor <;> rintro h <;> simp_all

/-- What a construction refuses with: the first refused registration's refusal, or `AmbiguousTemplateSet` with a table
and the text of a template of it that the check names. -/
theorem build_error {rs : List Registration} {e : Refusal} (h : Interpreter.build rs = .error e) :
    Interpreter.addAll rs .empty = .error e ∨
      ∃ ip t p, Interpreter.addAll rs .empty = .ok ip ∧ ambiguousTemplate (ip.index t).templates = some p ∧
        e = .ambiguousTemplateSet t p.sourceText := by
  rw [Interpreter.build] at h
  split at h
  · next he => exact .inl (he.trans h)
  · next ip he =>
    refine .inr ?_
    split at h
    · next h0 =>
      cases h
      obtain ⟨p, hp, rfl⟩ := Option.map_eq_some_iff.mp h0
      exact ⟨ip, .t0, p, he, hp, rfl⟩
    · next h1 =>
      cases h
      obtain ⟨p, hp, rfl⟩ := Option.map_eq_some_iff.mp h1
      exact ⟨ip, .t1, p, he, hp, rfl⟩
    · cases h

end Sys2Proof.Machine
end

