-- ==== Sys2Proof/Laws/State.lean ====
section
/-! SUPPORT. What each update of the register file and of the state does to each field, so that no proof unfolds a record
update. -/

namespace Sys2Proof.Machine

/-! ## Register file updates -/

@[simp] theorem RegFile.setF_a (v : Byte) (r : RegFile) : (RegFile.setF v r).a = r.a := rfl
@[simp] theorem RegFile.setF_f (v : Byte) (r : RegFile) : (RegFile.setF v r).f = v &&& 0xF0#8 := rfl
@[simp] theorem RegFile.setF_b (v : Byte) (r : RegFile) : (RegFile.setF v r).b = r.b := rfl
@[simp] theorem RegFile.setF_c (v : Byte) (r : RegFile) : (RegFile.setF v r).c = r.c := rfl
@[simp] theorem RegFile.setF_d (v : Byte) (r : RegFile) : (RegFile.setF v r).d = r.d := rfl
@[simp] theorem RegFile.setF_e (v : Byte) (r : RegFile) : (RegFile.setF v r).e = r.e := rfl
@[simp] theorem RegFile.setF_h (v : Byte) (r : RegFile) : (RegFile.setF v r).h = r.h := rfl
@[simp] theorem RegFile.setF_l (v : Byte) (r : RegFile) : (RegFile.setF v r).l = r.l := rfl
@[simp] theorem RegFile.setF_sp (v : Byte) (r : RegFile) : (RegFile.setF v r).sp = r.sp := rfl
@[simp] theorem RegFile.setF_pc (v : Byte) (r : RegFile) : (RegFile.setF v r).pc = r.pc := rfl

@[simp] theorem RegFile.setFlag_a (m : Byte) (v : Bool) (r : RegFile) : (RegFile.setFlag m v r).a = r.a := rfl
@[simp] theorem RegFile.setFlag_f (m : Byte) (v : Bool) (r : RegFile) : (RegFile.setFlag m v r).f = (if v then r.f ||| m else r.f &&& ~~~m) &&& 0xF0#8 := rfl
@[simp] theorem RegFile.setFlag_b (m : Byte) (v : Bool) (r : RegFile) : (RegFile.setFlag m v r).b = r.b := rfl
@[simp] theorem RegFile.setFlag_c (m : Byte) (v : Bool) (r : RegFile) : (RegFile.setFlag m v r).c = r.c := rfl
@[simp] theorem RegFile.setFlag_d (m : Byte) (v : Bool) (r : RegFile) : (RegFile.setFlag m v r).d = r.d := rfl
@[simp] theorem RegFile.setFlag_e (m : Byte) (v : Bool) (r : RegFile) : (RegFile.setFlag m v r).e = r.e := rfl
@[simp] theorem RegFile.setFlag_h (m : Byte) (v : Bool) (r : RegFile) : (RegFile.setFlag m v r).h = r.h := rfl
@[simp] theorem RegFile.setFlag_l (m : Byte) (v : Bool) (r : RegFile) : (RegFile.setFlag m v r).l = r.l := rfl
@[simp] theorem RegFile.setFlag_sp (m : Byte) (v : Bool) (r : RegFile) : (RegFile.setFlag m v r).sp = r.sp := rfl
@[simp] theorem RegFile.setFlag_pc (m : Byte) (v : Bool) (r : RegFile) : (RegFile.setFlag m v r).pc = r.pc := rfl

@[simp] theorem RegFile.setZ_a (v : Bool) (r : RegFile) : (RegFile.setZ v r).a = r.a := rfl
@[simp] theorem RegFile.setZ_b (v : Bool) (r : RegFile) : (RegFile.setZ v r).b = r.b := rfl
@[simp] theorem RegFile.setZ_c (v : Bool) (r : RegFile) : (RegFile.setZ v r).c = r.c := rfl
@[simp] theorem RegFile.setZ_d (v : Bool) (r : RegFile) : (RegFile.setZ v r).d = r.d := rfl
@[simp] theorem RegFile.setZ_e (v : Bool) (r : RegFile) : (RegFile.setZ v r).e = r.e := rfl
@[simp] theorem RegFile.setZ_h (v : Bool) (r : RegFile) : (RegFile.setZ v r).h = r.h := rfl
@[simp] theorem RegFile.setZ_l (v : Bool) (r : RegFile) : (RegFile.setZ v r).l = r.l := rfl
@[simp] theorem RegFile.setZ_sp (v : Bool) (r : RegFile) : (RegFile.setZ v r).sp = r.sp := rfl
@[simp] theorem RegFile.setZ_pc (v : Bool) (r : RegFile) : (RegFile.setZ v r).pc = r.pc := rfl

@[simp] theorem RegFile.setN_a (v : Bool) (r : RegFile) : (RegFile.setN v r).a = r.a := rfl
@[simp] theorem RegFile.setN_b (v : Bool) (r : RegFile) : (RegFile.setN v r).b = r.b := rfl
@[simp] theorem RegFile.setN_c (v : Bool) (r : RegFile) : (RegFile.setN v r).c = r.c := rfl
@[simp] theorem RegFile.setN_d (v : Bool) (r : RegFile) : (RegFile.setN v r).d = r.d := rfl
@[simp] theorem RegFile.setN_e (v : Bool) (r : RegFile) : (RegFile.setN v r).e = r.e := rfl
@[simp] theorem RegFile.setN_h (v : Bool) (r : RegFile) : (RegFile.setN v r).h = r.h := rfl
@[simp] theorem RegFile.setN_l (v : Bool) (r : RegFile) : (RegFile.setN v r).l = r.l := rfl
@[simp] theorem RegFile.setN_sp (v : Bool) (r : RegFile) : (RegFile.setN v r).sp = r.sp := rfl
@[simp] theorem RegFile.setN_pc (v : Bool) (r : RegFile) : (RegFile.setN v r).pc = r.pc := rfl

@[simp] theorem RegFile.setH_a (v : Bool) (r : RegFile) : (RegFile.setH v r).a = r.a := rfl
@[simp] theorem RegFile.setH_b (v : Bool) (r : RegFile) : (RegFile.setH v r).b = r.b := rfl
@[simp] theorem RegFile.setH_c (v : Bool) (r : RegFile) : (RegFile.setH v r).c = r.c := rfl
@[simp] theorem RegFile.setH_d (v : Bool) (r : RegFile) : (RegFile.setH v r).d = r.d := rfl
@[simp] theorem RegFile.setH_e (v : Bool) (r : RegFile) : (RegFile.setH v r).e = r.e := rfl
@[simp] theorem RegFile.setH_h (v : Bool) (r : RegFile) : (RegFile.setH v r).h = r.h := rfl
@[simp] theorem RegFile.setH_l (v : Bool) (r : RegFile) : (RegFile.setH v r).l = r.l := rfl
@[simp] theorem RegFile.setH_sp (v : Bool) (r : RegFile) : (RegFile.setH v r).sp = r.sp := rfl
@[simp] theorem RegFile.setH_pc (v : Bool) (r : RegFile) : (RegFile.setH v r).pc = r.pc := rfl

@[simp] theorem RegFile.setC_a (v : Bool) (r : RegFile) : (RegFile.setC v r).a = r.a := rfl
@[simp] theorem RegFile.setC_b (v : Bool) (r : RegFile) : (RegFile.setC v r).b = r.b := rfl
@[simp] theorem RegFile.setC_c (v : Bool) (r : RegFile) : (RegFile.setC v r).c = r.c := rfl
@[simp] theorem RegFile.setC_d (v : Bool) (r : RegFile) : (RegFile.setC v r).d = r.d := rfl
@[simp] theorem RegFile.setC_e (v : Bool) (r : RegFile) : (RegFile.setC v r).e = r.e := rfl
@[simp] theorem RegFile.setC_h (v : Bool) (r : RegFile) : (RegFile.setC v r).h = r.h := rfl
@[simp] theorem RegFile.setC_l (v : Bool) (r : RegFile) : (RegFile.setC v r).l = r.l := rfl
@[simp] theorem RegFile.setC_sp (v : Bool) (r : RegFile) : (RegFile.setC v r).sp = r.sp := rfl
@[simp] theorem RegFile.setC_pc (v : Bool) (r : RegFile) : (RegFile.setC v r).pc = r.pc := rfl

@[simp] theorem RegFile.setZNHC_a (z n hf cf : Bool) (r : RegFile) : (RegFile.setZNHC z n hf cf r).a = r.a := rfl
@[simp] theorem RegFile.setZNHC_b (z n hf cf : Bool) (r : RegFile) : (RegFile.setZNHC z n hf cf r).b = r.b := rfl
@[simp] theorem RegFile.setZNHC_c (z n hf cf : Bool) (r : RegFile) : (RegFile.setZNHC z n hf cf r).c = r.c := rfl
@[simp] theorem RegFile.setZNHC_d (z n hf cf : Bool) (r : RegFile) : (RegFile.setZNHC z n hf cf r).d = r.d := rfl
@[simp] theorem RegFile.setZNHC_e (z n hf cf : Bool) (r : RegFile) : (RegFile.setZNHC z n hf cf r).e = r.e := rfl
@[simp] theorem RegFile.setZNHC_h (z n hf cf : Bool) (r : RegFile) : (RegFile.setZNHC z n hf cf r).h = r.h := rfl
@[simp] theorem RegFile.setZNHC_l (z n hf cf : Bool) (r : RegFile) : (RegFile.setZNHC z n hf cf r).l = r.l := rfl
@[simp] theorem RegFile.setZNHC_sp (z n hf cf : Bool) (r : RegFile) : (RegFile.setZNHC z n hf cf r).sp = r.sp := rfl
@[simp] theorem RegFile.setZNHC_pc (z n hf cf : Bool) (r : RegFile) : (RegFile.setZNHC z n hf cf r).pc = r.pc := rfl

@[simp] theorem RegFile.setAf_a (v : Word) (r : RegFile) : (RegFile.setAf v r).a = hi8 v := rfl
@[simp] theorem RegFile.setAf_f (v : Word) (r : RegFile) : (RegFile.setAf v r).f = lo8 v &&& 0xF0#8 := rfl
@[simp] theorem RegFile.setAf_b (v : Word) (r : RegFile) : (RegFile.setAf v r).b = r.b := rfl
@[simp] theorem RegFile.setAf_c (v : Word) (r : RegFile) : (RegFile.setAf v r).c = r.c := rfl
@[simp] theorem RegFile.setAf_d (v : Word) (r : RegFile) : (RegFile.setAf v r).d = r.d := rfl
@[simp] theorem RegFile.setAf_e (v : Word) (r : RegFile) : (RegFile.setAf v r).e = r.e := rfl
@[simp] theorem RegFile.setAf_h (v : Word) (r : RegFile) : (RegFile.setAf v r).h = r.h := rfl
@[simp] theorem RegFile.setAf_l (v : Word) (r : RegFile) : (RegFile.setAf v r).l = r.l := rfl
@[simp] theorem RegFile.setAf_sp (v : Word) (r : RegFile) : (RegFile.setAf v r).sp = r.sp := rfl
@[simp] theorem RegFile.setAf_pc (v : Word) (r : RegFile) : (RegFile.setAf v r).pc = r.pc := rfl

@[simp] theorem RegFile.setBc_a (v : Word) (r : RegFile) : (RegFile.setBc v r).a = r.a := rfl
@[simp] theorem RegFile.setBc_f (v : Word) (r : RegFile) : (RegFile.setBc v r).f = r.f := rfl
@[simp] theorem RegFile.setBc_b (v : Word) (r : RegFile) : (RegFile.setBc v r).b = hi8 v := rfl
@[simp] theorem RegFile.setBc_c (v : Word) (r : RegFile) : (RegFile.setBc v r).c = lo8 v := rfl
@[simp] theorem RegFile.setBc_d (v : Word) (r : RegFile) : (RegFile.setBc v r).d = r.d := rfl
@[simp] theorem RegFile.setBc_e (v : Word) (r : RegFile) : (RegFile.setBc v r).e = r.e := rfl
@[simp] theorem RegFile.setBc_h (v : Word) (r : RegFile) : (RegFile.setBc v r).h = r.h := rfl
@[simp] theorem RegFile.setBc_l (v : Word) (r : RegFile) : (RegFile.setBc v r).l = r.l := rfl
@[simp] theorem RegFile.setBc_sp (v : Word) (r : RegFile) : (RegFile.setBc v r).sp = r.sp := rfl
@[simp] theorem RegFile.setBc_pc (v : Word) (r : RegFile) : (RegFile.setBc v r).pc = r.pc := rfl

@[simp] theorem RegFile.setDe_a (v : Word) (r : RegFile) : (RegFile.setDe v r).a = r.a := rfl
@[simp] theorem RegFile.setDe_f (v : Word) (r : RegFile) : (RegFile.setDe v r).f = r.f := rfl
@[simp] theorem RegFile.setDe_b (v : Word) (r : RegFile) : (RegFile.setDe v r).b = r.b := rfl
@[simp] theorem RegFile.setDe_c (v : Word) (r : RegFile) : (RegFile.setDe v r).c = r.c := rfl
@[simp] theorem RegFile.setDe_d (v : Word) (r : RegFile) : (RegFile.setDe v r).d = hi8 v := rfl
@[simp] theorem RegFile.setDe_e (v : Word) (r : RegFile) : (RegFile.setDe v r).e = lo8 v := rfl
@[simp] theorem RegFile.setDe_h (v : Word) (r : RegFile) : (RegFile.setDe v r).h = r.h := rfl
@[simp] theorem RegFile.setDe_l (v : Word) (r : RegFile) : (RegFile.setDe v r).l = r.l := rfl
@[simp] theorem RegFile.setDe_sp (v : Word) (r : RegFile) : (RegFile.setDe v r).sp = r.sp := rfl
@[simp] theorem RegFile.setDe_pc (v : Word) (r : RegFile) : (RegFile.setDe v r).pc = r.pc := rfl

@[simp] theorem RegFile.setHl_a (v : Word) (r : RegFile) : (RegFile.setHl v r).a = r.a := rfl
@[simp] theorem RegFile.setHl_f (v : Word) (r : RegFile) : (RegFile.setHl v r).f = r.f := rfl
@[simp] theorem RegFile.setHl_b (v : Word) (r : RegFile) : (RegFile.setHl v r).b = r.b := rfl
@[simp] theorem RegFile.setHl_c (v : Word) (r : RegFile) : (RegFile.setHl v r).c = r.c := rfl
@[simp] theorem RegFile.setHl_d (v : Word) (r : RegFile) : (RegFile.setHl v r).d = r.d := rfl
@[simp] theorem RegFile.setHl_e (v : Word) (r : RegFile) : (RegFile.setHl v r).e = r.e := rfl
@[simp] theorem RegFile.setHl_h (v : Word) (r : RegFile) : (RegFile.setHl v r).h = hi8 v := rfl
@[simp] theorem RegFile.setHl_l (v : Word) (r : RegFile) : (RegFile.setHl v r).l = lo8 v := rfl
@[simp] theorem RegFile.setHl_sp (v : Word) (r : RegFile) : (RegFile.setHl v r).sp = r.sp := rfl
@[simp] theorem RegFile.setHl_pc (v : Word) (r : RegFile) : (RegFile.setHl v r).pc = r.pc := rfl

@[simp] theorem RegFile.set8_a (v : Byte) (r : RegFile) : RegFile.set8 .a v r = { r with a := v } := rfl
@[simp] theorem RegFile.get8_a (r : RegFile) : r.get8 .a = r.a := rfl
@[simp] theorem RegFile.set8_b (v : Byte) (r : RegFile) : RegFile.set8 .b v r = { r with b := v } := rfl
@[simp] theorem RegFile.get8_b (r : RegFile) : r.get8 .b = r.b := rfl
@[simp] theorem RegFile.set8_c (v : Byte) (r : RegFile) : RegFile.set8 .c v r = { r with c := v } := rfl
@[simp] theorem RegFile.get8_c (r : RegFile) : r.get8 .c = r.c := rfl
@[simp] theorem RegFile.set8_d (v : Byte) (r : RegFile) : RegFile.set8 .d v r = { r with d := v } := rfl
@[simp] theorem RegFile.get8_d (r : RegFile) : r.get8 .d = r.d := rfl
@[simp] theorem RegFile.set8_e (v : Byte) (r : RegFile) : RegFile.set8 .e v r = { r with e := v } := rfl
@[simp] theorem RegFile.get8_e (r : RegFile) : r.get8 .e = r.e := rfl
@[simp] theorem RegFile.set8_h (v : Byte) (r : RegFile) : RegFile.set8 .h v r = { r with h := v } := rfl
@[simp] theorem RegFile.get8_h (r : RegFile) : r.get8 .h = r.h := rfl
@[simp] theorem RegFile.set8_l (v : Byte) (r : RegFile) : RegFile.set8 .l v r = { r with l := v } := rfl
@[simp] theorem RegFile.get8_l (r : RegFile) : r.get8 .l = r.l := rfl
@[simp] theorem RegFile.set8_f (v : Byte) (r : RegFile) : RegFile.set8 .f v r = r.setF v := rfl
@[simp] theorem RegFile.get8_f (r : RegFile) : r.get8 .f = r.f := rfl
@[simp] theorem RegFile.set16_af (v : Word) (r : RegFile) : RegFile.set16 .af v r = r.setAf v := rfl
@[simp] theorem RegFile.get16_af (r : RegFile) : r.get16 .af = r.af := rfl
@[simp] theorem RegFile.set16_bc (v : Word) (r : RegFile) : RegFile.set16 .bc v r = r.setBc v := rfl
@[simp] theorem RegFile.get16_bc (r : RegFile) : r.get16 .bc = r.bc := rfl
@[simp] theorem RegFile.set16_de (v : Word) (r : RegFile) : RegFile.set16 .de v r = r.setDe v := rfl
@[simp] theorem RegFile.get16_de (r : RegFile) : r.get16 .de = r.de := rfl
@[simp] theorem RegFile.set16_hl (v : Word) (r : RegFile) : RegFile.set16 .hl v r = r.setHl v := rfl
@[simp] theorem RegFile.get16_hl (r : RegFile) : r.get16 .hl = r.hl := rfl
@[simp] theorem RegFile.set16_sp (v : Word) (r : RegFile) : RegFile.set16 .sp v r = { r with sp := v } := rfl
@[simp] theorem RegFile.get16_sp (r : RegFile) : r.get16 .sp = r.sp := rfl
@[simp] theorem RegFile.set16_pc (v : Word) (r : RegFile) : RegFile.set16 .pc v r = { r with pc := v } := rfl
@[simp] theorem RegFile.get16_pc (r : RegFile) : r.get16 .pc = r.pc := rfl

/-! ## State updates -/

@[simp] theorem State.setRf_rf (r : RegFile) (s : State) : (State.setRf r s).rf = r := rfl
@[simp] theorem State.setRf_countdown (r : RegFile) (s : State) : (State.setRf r s).countdown = s.countdown := rfl
@[simp] theorem State.setRf_fault (r : RegFile) (s : State) : (State.setRf r s).fault = s.fault := rfl
@[simp] theorem State.setRf_extra (r : RegFile) (s : State) : (State.setRf r s).extra = s.extra := rfl
@[simp] theorem State.setRf_bus (r : RegFile) (s : State) : (State.setRf r s).bus = s.bus := rfl
@[simp] theorem State.setRf_timing (r : RegFile) (s : State) : (State.setRf r s).timing = s.timing := rfl

@[simp] theorem State.withRf_rf (g : RegFile → RegFile) (s : State) : (State.withRf g s).rf = g s.rf := rfl
@[simp] theorem State.withRf_countdown (g : RegFile → RegFile) (s : State) : (State.withRf g s).countdown = s.countdown := rfl
@[simp] theorem State.withRf_fault (g : RegFile → RegFile) (s : State) : (State.withRf g s).fault = s.fault := rfl
@[simp] theorem State.withRf_extra (g : RegFile → RegFile) (s : State) : (State.withRf g s).extra = s.extra := rfl
@[simp] theorem State.withRf_bus (g : RegFile → RegFile) (s : State) : (State.withRf g s).bus = s.bus := rfl
@[simp] theorem State.withRf_timing (g : RegFile → RegFile) (s : State) : (State.withRf g s).timing = s.timing := rfl

@[simp] theorem State.setPc_rf (v : Word) (s : State) : (State.setPc v s).rf = { s.rf with pc := v } := rfl
@[simp] theorem State.setPc_countdown (v : Word) (s : State) : (State.setPc v s).countdown = s.countdown := rfl
@[simp] theorem State.setPc_fault (v : Word) (s : State) : (State.setPc v s).fault = s.fault := rfl
@[simp] theorem State.setPc_extra (v : Word) (s : State) : (State.setPc v s).extra = s.extra := rfl
@[simp] theorem State.setPc_bus (v : Word) (s : State) : (State.setPc v s).bus = s.bus := rfl
@[simp] theorem State.setPc_timing (v : Word) (s : State) : (State.setPc v s).timing = s.timing := rfl

@[simp] theorem State.setSp_rf (v : Word) (s : State) : (State.setSp v s).rf = { s.rf with sp := v } := rfl
@[simp] theorem State.setSp_countdown (v : Word) (s : State) : (State.setSp v s).countdown = s.countdown := rfl
@[simp] theorem State.setSp_fault (v : Word) (s : State) : (State.setSp v s).fault = s.fault := rfl
@[simp] theorem State.setSp_extra (v : Word) (s : State) : (State.setSp v s).extra = s.extra := rfl
@[simp] theorem State.setSp_bus (v : Word) (s : State) : (State.setSp v s).bus = s.bus := rfl
@[simp] theorem State.setSp_timing (v : Word) (s : State) : (State.setSp v s).timing = s.timing := rfl

@[simp] theorem State.memWrite_rf (a : Word) (v : Byte) (s : State) : (State.memWrite a v s).rf = s.rf := rfl
@[simp] theorem State.memWrite_countdown (a : Word) (v : Byte) (s : State) : (State.memWrite a v s).countdown = s.countdown := rfl
@[simp] theorem State.memWrite_fault (a : Word) (v : Byte) (s : State) : (State.memWrite a v s).fault = s.fault := rfl
@[simp] theorem State.memWrite_extra (a : Word) (v : Byte) (s : State) : (State.memWrite a v s).extra = s.extra := rfl
@[simp] theorem State.memWrite_bus (a : Word) (v : Byte) (s : State) : (State.memWrite a v s).bus = { s.bus with mem := Memory.write s.bus.mem a.toNat v, log := .write a v :: s.bus.log } := rfl
@[simp] theorem State.memWrite_timing (a : Word) (v : Byte) (s : State) : (State.memWrite a v s).timing = s.timing := rfl

@[simp] theorem State.memRead_rf (a : Word) (s : State) : ((State.memRead a s).2).rf = s.rf := rfl
@[simp] theorem State.memRead_countdown (a : Word) (s : State) : ((State.memRead a s).2).countdown = s.countdown := rfl
@[simp] theorem State.memRead_fault (a : Word) (s : State) : ((State.memRead a s).2).fault = s.fault := rfl
@[simp] theorem State.memRead_extra (a : Word) (s : State) : ((State.memRead a s).2).extra = s.extra := rfl
@[simp] theorem State.memRead_bus (a : Word) (s : State) : ((State.memRead a s).2).bus = { s.bus with replies := s.bus.replies.tail, log := .read a (s.bus.answer a) :: s.bus.log } := rfl
@[simp] theorem State.memRead_timing (a : Word) (s : State) : ((State.memRead a s).2).timing = s.timing := rfl

@[simp] theorem State.fetch8_rf (s : State) : ((State.fetch8 s).2).rf = { s.rf with pc := s.rf.pc + 1 } := rfl
@[simp] theorem State.fetch8_countdown (s : State) : ((State.fetch8 s).2).countdown = s.countdown := rfl
@[simp] theorem State.fetch8_fault (s : State) : ((State.fetch8 s).2).fault = s.fault := rfl
@[simp] theorem State.fetch8_extra (s : State) : ((State.fetch8 s).2).extra = s.extra := rfl
@[simp] theorem State.fetch8_bus (s : State) : ((State.fetch8 s).2).bus = { s.bus with replies := s.bus.replies.tail, log := .read s.rf.pc (s.bus.answer s.rf.pc) :: s.bus.log } := rfl
@[simp] theorem State.fetch8_timing (s : State) : ((State.fetch8 s).2).timing = s.timing := rfl

@[simp] theorem State.memRead_value (a : Word) (s : State) : (State.memRead a s).1 = s.bus.answer a := rfl
@[simp] theorem State.fetch8_value (s : State) : (State.fetch8 s).1 = s.bus.answer s.rf.pc := rfl

/-! ## The pair views after an update -/

theorem toNat_mk16 (x y : Byte) : (mk16 x y).toNat = x.toNat * 256 + y.toNat := by
  unfold mk16
  rw [BitVec.toNat_append, ← Nat.shiftLeft_add_eq_or_of_lt y.isLt, Nat.shiftLeft_eq]

theorem toNat_hi8 (v : Word) : (hi8 v).toNat = v.toNat / 256 := by
  have := v.isLt
  simp [hi8, Nat.shiftRight_eq_div_pow]; omega

theorem toNat_lo8 (v : Word) : (lo8 v).toNat = v.toNat % 256 := by
  simp [lo8]

@[simp] theorem mk16_hi8_lo8 (v : Word) : mk16 (hi8 v) (lo8 v) = v := by
  apply BitVec.eq_of_toNat_eq; rw [toNat_mk16, toNat_hi8, toNat_lo8]; omega

@[simp] theorem hi8_mk16 (x y : Byte) : hi8 (mk16 x y) = x := by
  apply BitVec.eq_of_toNat_eq; rw [toNat_hi8, toNat_mk16]; have := y.isLt; omega

@[simp] theorem lo8_mk16 (x y : Byte) : lo8 (mk16 x y) = y := by
  apply BitVec.eq_of_toNat_eq; rw [toNat_lo8, toNat_mk16]; have := y.isLt; omega

@[simp] theorem RegFile.bc_setBc (v : Word) (r : RegFile) : (r.setBc v).bc = v := mk16_hi8_lo8 v
@[simp] theorem RegFile.de_setDe (v : Word) (r : RegFile) : (r.setDe v).de = v := mk16_hi8_lo8 v
@[simp] theorem RegFile.hl_setHl (v : Word) (r : RegFile) : (r.setHl v).hl = v := mk16_hi8_lo8 v

/-- What `AF` reads after it is written (10_state.md R12, R11): the low nibble of F is gone. -/
@[simp] theorem RegFile.af_setAf (v : Word) (r : RegFile) : (r.setAf v).af = mk16 (hi8 v) (lo8 v &&& 0xF0#8) := rfl

end Sys2Proof.Machine
end

