-- ==== Sys2Proof/Laws/Flags.lean ====
section
/-! SUPPORT. What each flag write does to F and to each flag, and what the flag computations leave alone. -/

namespace Sys2Proof.Machine

/-! ## F after a write -/

/-- Every write of F leaves its low nibble 0 (10_state.md R11). -/
theorem and_F0_low (v : Byte) : (v &&& 0xF0#8) &&& 0x0F#8 = 0#8 := by
  revert v
  decide

theorem RegFile.setFlag_low (m : Byte) (v : Bool) (r : RegFile) : (r.setFlag m v).f &&& 0x0F#8 = 0#8 :=
  and_F0_low _

theorem RegFile.setZNHC_low (z n h c : Bool) (r : RegFile) : (r.setZNHC z n h c).f &&& 0x0F#8 = 0#8 :=
  and_F0_low _

/-! ## A flag after a write of a flag (10_state.md R13) -/

theorem flag_bits (f : Byte) (v : Bool) :
    ((if v then f ||| 0x80#8 else f &&& ~~~0x80#8) &&& 0xF0#8).getLsbD 7 = v ∧
    ((if v then f ||| 0x40#8 else f &&& ~~~0x40#8) &&& 0xF0#8).getLsbD 6 = v ∧
    ((if v then f ||| 0x20#8 else f &&& ~~~0x20#8) &&& 0xF0#8).getLsbD 5 = v ∧
    ((if v then f ||| 0x10#8 else f &&& ~~~0x10#8) &&& 0xF0#8).getLsbD 4 = v := by
  cases v <;> simp

@[simp] theorem RegFile.flagZ_setZ (v : Bool) (r : RegFile) : (r.setZ v).flagZ = v :=
  (flag_bits r.f v).1

@[simp] theorem RegFile.flagZ_setN (v : Bool) (r : RegFile) : (r.setN v).flagZ = r.flagZ := by
  cases v <;> simp [RegFile.flagZ, RegFile.setN]

@[simp] theorem RegFile.flagZ_setH (v : Bool) (r : RegFile) : (r.setH v).flagZ = r.flagZ := by
  cases v <;> simp [RegFile.flagZ, RegFile.setH]

@[simp] theorem RegFile.flagZ_setC (v : Bool) (r : RegFile) : (r.setC v).flagZ = r.flagZ := by
  cases v <;> simp [RegFile.flagZ, RegFile.setC]

@[simp] theorem RegFile.flagN_setN (v : Bool) (r : RegFile) : (r.setN v).flagN = v :=
  (flag_bits r.f v).2.1

@[simp] theorem RegFile.flagN_setZ (v : Bool) (r : RegFile) : (r.setZ v).flagN = r.flagN := by
  cases v <;> simp [RegFile.flagN, RegFile.setZ]

@[simp] theorem RegFile.flagN_setH (v : Bool) (r : RegFile) : (r.setH v).flagN = r.flagN := by
  cases v <;> simp [RegFile.flagN, RegFile.setH]

@[simp] theorem RegFile.flagN_setC (v : Bool) (r : RegFile) : (r.setC v).flagN = r.flagN := by
  cases v <;> simp [RegFile.flagN, RegFile.setC]

@[simp] theorem RegFile.flagH_setH (v : Bool) (r : RegFile) : (r.setH v).flagH = v :=
  (flag_bits r.f v).2.2.1

@[simp] theorem RegFile.flagH_setZ (v : Bool) (r : RegFile) : (r.setZ v).flagH = r.flagH := by
  cases v <;> simp [RegFile.flagH, RegFile.setZ]

@[simp] theorem RegFile.flagH_setN (v : Bool) (r : RegFile) : (r.setN v).flagH = r.flagH := by
  cases v <;> simp [RegFile.flagH, RegFile.setN]

@[simp] theorem RegFile.flagH_setC (v : Bool) (r : RegFile) : (r.setC v).flagH = r.flagH := by
  cases v <;> simp [RegFile.flagH, RegFile.setC]

@[simp] theorem RegFile.flagC_setC (v : Bool) (r : RegFile) : (r.setC v).flagC = v :=
  (flag_bits r.f v).2.2.2

@[simp] theorem RegFile.flagC_setZ (v : Bool) (r : RegFile) : (r.setZ v).flagC = r.flagC := by
  cases v <;> simp [RegFile.flagC, RegFile.setZ]

@[simp] theorem RegFile.flagC_setN (v : Bool) (r : RegFile) : (r.setN v).flagC = r.flagC := by
  cases v <;> simp [RegFile.flagC, RegFile.setN]

@[simp] theorem RegFile.flagC_setH (v : Bool) (r : RegFile) : (r.setH v).flagC = r.flagC := by
  cases v <;> simp [RegFile.flagC, RegFile.setH]

@[simp] theorem RegFile.flagZ_setZNHC (z n h c : Bool) (r : RegFile) : (r.setZNHC z n h c).flagZ = z := by
  simp [RegFile.setZNHC]

@[simp] theorem RegFile.flagN_setZNHC (z n h c : Bool) (r : RegFile) : (r.setZNHC z n h c).flagN = n := by
  simp [RegFile.setZNHC]

@[simp] theorem RegFile.flagH_setZNHC (z n h c : Bool) (r : RegFile) : (r.setZNHC z n h c).flagH = h := by
  simp [RegFile.setZNHC]

@[simp] theorem RegFile.flagC_setZNHC (z n h c : Bool) (r : RegFile) : (r.setZNHC z n h c).flagC = c := by
  simp [RegFile.setZNHC]

/-- All of F after the four flags are written (10_state.md R13). -/
theorem RegFile.setZNHC_f (z n h c : Bool) (r : RegFile) :
    (r.setZNHC z n h c).f =
      (bitByte z <<< 7) ||| (bitByte n <<< 6) ||| (bitByte h <<< 5) ||| (bitByte c <<< 4) := by
  simp only [RegFile.setZNHC, RegFile.setC, RegFile.setH, RegFile.setN, RegFile.setZ, RegFile.setFlag, RegFile.setF]
  generalize r.f = f
  revert f
  cases z <;> cases n <;> cases h <;> cases c <;> decide

/-! ## What the primitives leave alone (40_primitives.md, table R116) -/

@[simp] theorem add8_b (u : Bool) (v : Byte) (r : RegFile) : (add8 u v r).b = r.b := rfl
@[simp] theorem add8_c (u : Bool) (v : Byte) (r : RegFile) : (add8 u v r).c = r.c := rfl
@[simp] theorem add8_d (u : Bool) (v : Byte) (r : RegFile) : (add8 u v r).d = r.d := rfl
@[simp] theorem add8_e (u : Bool) (v : Byte) (r : RegFile) : (add8 u v r).e = r.e := rfl
@[simp] theorem add8_h (u : Bool) (v : Byte) (r : RegFile) : (add8 u v r).h = r.h := rfl
@[simp] theorem add8_l (u : Bool) (v : Byte) (r : RegFile) : (add8 u v r).l = r.l := rfl
@[simp] theorem add8_sp (u : Bool) (v : Byte) (r : RegFile) : (add8 u v r).sp = r.sp := rfl
@[simp] theorem add8_pc (u : Bool) (v : Byte) (r : RegFile) : (add8 u v r).pc = r.pc := rfl
theorem add8_low (u : Bool) (v : Byte) (r : RegFile) : (add8 u v r).f &&& 0x0F#8 = 0#8 := and_F0_low _

@[simp] theorem sub8_b (u w : Bool) (v : Byte) (r : RegFile) : (sub8 u w v r).b = r.b := rfl
@[simp] theorem sub8_c (u w : Bool) (v : Byte) (r : RegFile) : (sub8 u w v r).c = r.c := rfl
@[simp] theorem sub8_d (u w : Bool) (v : Byte) (r : RegFile) : (sub8 u w v r).d = r.d := rfl
@[simp] theorem sub8_e (u w : Bool) (v : Byte) (r : RegFile) : (sub8 u w v r).e = r.e := rfl
@[simp] theorem sub8_h (u w : Bool) (v : Byte) (r : RegFile) : (sub8 u w v r).h = r.h := rfl
@[simp] theorem sub8_l (u w : Bool) (v : Byte) (r : RegFile) : (sub8 u w v r).l = r.l := rfl
@[simp] theorem sub8_sp (u w : Bool) (v : Byte) (r : RegFile) : (sub8 u w v r).sp = r.sp := rfl
@[simp] theorem sub8_pc (u w : Bool) (v : Byte) (r : RegFile) : (sub8 u w v r).pc = r.pc := rfl
theorem sub8_low (u w : Bool) (v : Byte) (r : RegFile) : (sub8 u w v r).f &&& 0x0F#8 = 0#8 := and_F0_low _

@[simp] theorem and8_b (v : Byte) (r : RegFile) : (and8 v r).b = r.b := rfl
@[simp] theorem and8_c (v : Byte) (r : RegFile) : (and8 v r).c = r.c := rfl
@[simp] theorem and8_d (v : Byte) (r : RegFile) : (and8 v r).d = r.d := rfl
@[simp] theorem and8_e (v : Byte) (r : RegFile) : (and8 v r).e = r.e := rfl
@[simp] theorem and8_h (v : Byte) (r : RegFile) : (and8 v r).h = r.h := rfl
@[simp] theorem and8_l (v : Byte) (r : RegFile) : (and8 v r).l = r.l := rfl
@[simp] theorem and8_sp (v : Byte) (r : RegFile) : (and8 v r).sp = r.sp := rfl
@[simp] theorem and8_pc (v : Byte) (r : RegFile) : (and8 v r).pc = r.pc := rfl
theorem and8_low (v : Byte) (r : RegFile) : (and8 v r).f &&& 0x0F#8 = 0#8 := and_F0_low _

@[simp] theorem or8_b (v : Byte) (r : RegFile) : (or8 v r).b = r.b := rfl
@[simp] theorem or8_c (v : Byte) (r : RegFile) : (or8 v r).c = r.c := rfl
@[simp] theorem or8_d (v : Byte) (r : RegFile) : (or8 v r).d = r.d := rfl
@[simp] theorem or8_e (v : Byte) (r : RegFile) : (or8 v r).e = r.e := rfl
@[simp] theorem or8_h (v : Byte) (r : RegFile) : (or8 v r).h = r.h := rfl
@[simp] theorem or8_l (v : Byte) (r : RegFile) : (or8 v r).l = r.l := rfl
@[simp] theorem or8_sp (v : Byte) (r : RegFile) : (or8 v r).sp = r.sp := rfl
@[simp] theorem or8_pc (v : Byte) (r : RegFile) : (or8 v r).pc = r.pc := rfl
theorem or8_low (v : Byte) (r : RegFile) : (or8 v r).f &&& 0x0F#8 = 0#8 := and_F0_low _

@[simp] theorem xor8_b (v : Byte) (r : RegFile) : (xor8 v r).b = r.b := rfl
@[simp] theorem xor8_c (v : Byte) (r : RegFile) : (xor8 v r).c = r.c := rfl
@[simp] theorem xor8_d (v : Byte) (r : RegFile) : (xor8 v r).d = r.d := rfl
@[simp] theorem xor8_e (v : Byte) (r : RegFile) : (xor8 v r).e = r.e := rfl
@[simp] theorem xor8_h (v : Byte) (r : RegFile) : (xor8 v r).h = r.h := rfl
@[simp] theorem xor8_l (v : Byte) (r : RegFile) : (xor8 v r).l = r.l := rfl
@[simp] theorem xor8_sp (v : Byte) (r : RegFile) : (xor8 v r).sp = r.sp := rfl
@[simp] theorem xor8_pc (v : Byte) (r : RegFile) : (xor8 v r).pc = r.pc := rfl
theorem xor8_low (v : Byte) (r : RegFile) : (xor8 v r).f &&& 0x0F#8 = 0#8 := and_F0_low _

@[simp] theorem cpl_b (r : RegFile) : (cpl r).b = r.b := rfl
@[simp] theorem cpl_c (r : RegFile) : (cpl r).c = r.c := rfl
@[simp] theorem cpl_d (r : RegFile) : (cpl r).d = r.d := rfl
@[simp] theorem cpl_e (r : RegFile) : (cpl r).e = r.e := rfl
@[simp] theorem cpl_h (r : RegFile) : (cpl r).h = r.h := rfl
@[simp] theorem cpl_l (r : RegFile) : (cpl r).l = r.l := rfl
@[simp] theorem cpl_sp (r : RegFile) : (cpl r).sp = r.sp := rfl
@[simp] theorem cpl_pc (r : RegFile) : (cpl r).pc = r.pc := rfl
theorem cpl_low (r : RegFile) : (cpl r).f &&& 0x0F#8 = 0#8 := and_F0_low _

@[simp] theorem daa_b (r : RegFile) : (daa r).b = r.b := rfl
@[simp] theorem daa_c (r : RegFile) : (daa r).c = r.c := rfl
@[simp] theorem daa_d (r : RegFile) : (daa r).d = r.d := rfl
@[simp] theorem daa_e (r : RegFile) : (daa r).e = r.e := rfl
@[simp] theorem daa_h (r : RegFile) : (daa r).h = r.h := rfl
@[simp] theorem daa_l (r : RegFile) : (daa r).l = r.l := rfl
@[simp] theorem daa_sp (r : RegFile) : (daa r).sp = r.sp := rfl
@[simp] theorem daa_pc (r : RegFile) : (daa r).pc = r.pc := rfl
theorem daa_low (r : RegFile) : (daa r).f &&& 0x0F#8 = 0#8 := and_F0_low _

@[simp] theorem testBit_a (b : BitVec 3) (x : Byte) (r : RegFile) : (testBit b x r).a = r.a := rfl
@[simp] theorem testBit_b (b : BitVec 3) (x : Byte) (r : RegFile) : (testBit b x r).b = r.b := rfl
@[simp] theorem testBit_c (b : BitVec 3) (x : Byte) (r : RegFile) : (testBit b x r).c = r.c := rfl
@[simp] theorem testBit_d (b : BitVec 3) (x : Byte) (r : RegFile) : (testBit b x r).d = r.d := rfl
@[simp] theorem testBit_e (b : BitVec 3) (x : Byte) (r : RegFile) : (testBit b x r).e = r.e := rfl
@[simp] theorem testBit_h (b : BitVec 3) (x : Byte) (r : RegFile) : (testBit b x r).h = r.h := rfl
@[simp] theorem testBit_l (b : BitVec 3) (x : Byte) (r : RegFile) : (testBit b x r).l = r.l := rfl
@[simp] theorem testBit_sp (b : BitVec 3) (x : Byte) (r : RegFile) : (testBit b x r).sp = r.sp := rfl
@[simp] theorem testBit_pc (b : BitVec 3) (x : Byte) (r : RegFile) : (testBit b x r).pc = r.pc := rfl
theorem testBit_low (b : BitVec 3) (x : Byte) (r : RegFile) : (testBit b x r).f &&& 0x0F#8 = 0#8 := and_F0_low _

@[simp] theorem scf_a (r : RegFile) : (scf r).a = r.a := rfl
@[simp] theorem scf_b (r : RegFile) : (scf r).b = r.b := rfl
@[simp] theorem scf_c (r : RegFile) : (scf r).c = r.c := rfl
@[simp] theorem scf_d (r : RegFile) : (scf r).d = r.d := rfl
@[simp] theorem scf_e (r : RegFile) : (scf r).e = r.e := rfl
@[simp] theorem scf_h (r : RegFile) : (scf r).h = r.h := rfl
@[simp] theorem scf_l (r : RegFile) : (scf r).l = r.l := rfl
@[simp] theorem scf_sp (r : RegFile) : (scf r).sp = r.sp := rfl
@[simp] theorem scf_pc (r : RegFile) : (scf r).pc = r.pc := rfl
theorem scf_low (r : RegFile) : (scf r).f &&& 0x0F#8 = 0#8 := and_F0_low _

@[simp] theorem ccf_a (r : RegFile) : (ccf r).a = r.a := rfl
@[simp] theorem ccf_b (r : RegFile) : (ccf r).b = r.b := rfl
@[simp] theorem ccf_c (r : RegFile) : (ccf r).c = r.c := rfl
@[simp] theorem ccf_d (r : RegFile) : (ccf r).d = r.d := rfl
@[simp] theorem ccf_e (r : RegFile) : (ccf r).e = r.e := rfl
@[simp] theorem ccf_h (r : RegFile) : (ccf r).h = r.h := rfl
@[simp] theorem ccf_l (r : RegFile) : (ccf r).l = r.l := rfl
@[simp] theorem ccf_sp (r : RegFile) : (ccf r).sp = r.sp := rfl
@[simp] theorem ccf_pc (r : RegFile) : (ccf r).pc = r.pc := rfl
theorem ccf_low (r : RegFile) : (ccf r).f &&& 0x0F#8 = 0#8 := and_F0_low _

@[simp] theorem add16_a (v : Word) (r : RegFile) : (add16 v r).a = r.a := rfl
@[simp] theorem add16_b (v : Word) (r : RegFile) : (add16 v r).b = r.b := rfl
@[simp] theorem add16_c (v : Word) (r : RegFile) : (add16 v r).c = r.c := rfl
@[simp] theorem add16_d (v : Word) (r : RegFile) : (add16 v r).d = r.d := rfl
@[simp] theorem add16_e (v : Word) (r : RegFile) : (add16 v r).e = r.e := rfl
@[simp] theorem add16_sp (v : Word) (r : RegFile) : (add16 v r).sp = r.sp := rfl
@[simp] theorem add16_pc (v : Word) (r : RegFile) : (add16 v r).pc = r.pc := rfl
theorem add16_low (v : Word) (r : RegFile) : (add16 v r).f &&& 0x0F#8 = 0#8 := and_F0_low _

@[simp] theorem addSpDisp_a (e : Byte) (r : RegFile) : ((addSpDisp e r).2).a = r.a := rfl
@[simp] theorem addSpDisp_b (e : Byte) (r : RegFile) : ((addSpDisp e r).2).b = r.b := rfl
@[simp] theorem addSpDisp_c (e : Byte) (r : RegFile) : ((addSpDisp e r).2).c = r.c := rfl
@[simp] theorem addSpDisp_d (e : Byte) (r : RegFile) : ((addSpDisp e r).2).d = r.d := rfl
@[simp] theorem addSpDisp_e (e : Byte) (r : RegFile) : ((addSpDisp e r).2).e = r.e := rfl
@[simp] theorem addSpDisp_h (e : Byte) (r : RegFile) : ((addSpDisp e r).2).h = r.h := rfl
@[simp] theorem addSpDisp_l (e : Byte) (r : RegFile) : ((addSpDisp e r).2).l = r.l := rfl
@[simp] theorem addSpDisp_sp (e : Byte) (r : RegFile) : ((addSpDisp e r).2).sp = r.sp := rfl
@[simp] theorem addSpDisp_pc (e : Byte) (r : RegFile) : ((addSpDisp e r).2).pc = r.pc := rfl
theorem addSpDisp_low (e : Byte) (r : RegFile) : ((addSpDisp e r).2).f &&& 0x0F#8 = 0#8 := and_F0_low _

@[simp] theorem inc8_a (x : Byte) (r : RegFile) : ((inc8 x r).2).a = r.a := rfl
@[simp] theorem inc8_b (x : Byte) (r : RegFile) : ((inc8 x r).2).b = r.b := rfl
@[simp] theorem inc8_c (x : Byte) (r : RegFile) : ((inc8 x r).2).c = r.c := rfl
@[simp] theorem inc8_d (x : Byte) (r : RegFile) : ((inc8 x r).2).d = r.d := rfl
@[simp] theorem inc8_e (x : Byte) (r : RegFile) : ((inc8 x r).2).e = r.e := rfl
@[simp] theorem inc8_h (x : Byte) (r : RegFile) : ((inc8 x r).2).h = r.h := rfl
@[simp] theorem inc8_l (x : Byte) (r : RegFile) : ((inc8 x r).2).l = r.l := rfl
@[simp] theorem inc8_sp (x : Byte) (r : RegFile) : ((inc8 x r).2).sp = r.sp := rfl
@[simp] theorem inc8_pc (x : Byte) (r : RegFile) : ((inc8 x r).2).pc = r.pc := rfl
theorem inc8_low (x : Byte) (r : RegFile) : ((inc8 x r).2).f &&& 0x0F#8 = 0#8 := and_F0_low _

@[simp] theorem dec8_a (x : Byte) (r : RegFile) : ((dec8 x r).2).a = r.a := rfl
@[simp] theorem dec8_b (x : Byte) (r : RegFile) : ((dec8 x r).2).b = r.b := rfl
@[simp] theorem dec8_c (x : Byte) (r : RegFile) : ((dec8 x r).2).c = r.c := rfl
@[simp] theorem dec8_d (x : Byte) (r : RegFile) : ((dec8 x r).2).d = r.d := rfl
@[simp] theorem dec8_e (x : Byte) (r : RegFile) : ((dec8 x r).2).e = r.e := rfl
@[simp] theorem dec8_h (x : Byte) (r : RegFile) : ((dec8 x r).2).h = r.h := rfl
@[simp] theorem dec8_l (x : Byte) (r : RegFile) : ((dec8 x r).2).l = r.l := rfl
@[simp] theorem dec8_sp (x : Byte) (r : RegFile) : ((dec8 x r).2).sp = r.sp := rfl
@[simp] theorem dec8_pc (x : Byte) (r : RegFile) : ((dec8 x r).2).pc = r.pc := rfl
theorem dec8_low (x : Byte) (r : RegFile) : ((dec8 x r).2).f &&& 0x0F#8 = 0#8 := and_F0_low _

@[simp] theorem shiftFlags_a (out : Bool) (y : Byte) (z : Bool) (r : RegFile) : (shiftFlags out y z r).a = r.a := rfl
@[simp] theorem shiftFlags_b (out : Bool) (y : Byte) (z : Bool) (r : RegFile) : (shiftFlags out y z r).b = r.b := rfl
@[simp] theorem shiftFlags_c (out : Bool) (y : Byte) (z : Bool) (r : RegFile) : (shiftFlags out y z r).c = r.c := rfl
@[simp] theorem shiftFlags_d (out : Bool) (y : Byte) (z : Bool) (r : RegFile) : (shiftFlags out y z r).d = r.d := rfl
@[simp] theorem shiftFlags_e (out : Bool) (y : Byte) (z : Bool) (r : RegFile) : (shiftFlags out y z r).e = r.e := rfl
@[simp] theorem shiftFlags_h (out : Bool) (y : Byte) (z : Bool) (r : RegFile) : (shiftFlags out y z r).h = r.h := rfl
@[simp] theorem shiftFlags_l (out : Bool) (y : Byte) (z : Bool) (r : RegFile) : (shiftFlags out y z r).l = r.l := rfl
@[simp] theorem shiftFlags_sp (out : Bool) (y : Byte) (z : Bool) (r : RegFile) : (shiftFlags out y z r).sp = r.sp := rfl
@[simp] theorem shiftFlags_pc (out : Bool) (y : Byte) (z : Bool) (r : RegFile) : (shiftFlags out y z r).pc = r.pc := rfl
theorem shiftFlags_low (out : Bool) (y : Byte) (z : Bool) (r : RegFile) : (shiftFlags out y z r).f &&& 0x0F#8 = 0#8 := and_F0_low _

@[simp] theorem rlc_a (z : Bool) (x : Byte) (r : RegFile) : ((rlc z x r).2).a = r.a := rfl
@[simp] theorem rlc_b (z : Bool) (x : Byte) (r : RegFile) : ((rlc z x r).2).b = r.b := rfl
@[simp] theorem rlc_c (z : Bool) (x : Byte) (r : RegFile) : ((rlc z x r).2).c = r.c := rfl
@[simp] theorem rlc_d (z : Bool) (x : Byte) (r : RegFile) : ((rlc z x r).2).d = r.d := rfl
@[simp] theorem rlc_e (z : Bool) (x : Byte) (r : RegFile) : ((rlc z x r).2).e = r.e := rfl
@[simp] theorem rlc_h (z : Bool) (x : Byte) (r : RegFile) : ((rlc z x r).2).h = r.h := rfl
@[simp] theorem rlc_l (z : Bool) (x : Byte) (r : RegFile) : ((rlc z x r).2).l = r.l := rfl
@[simp] theorem rlc_sp (z : Bool) (x : Byte) (r : RegFile) : ((rlc z x r).2).sp = r.sp := rfl
@[simp] theorem rlc_pc (z : Bool) (x : Byte) (r : RegFile) : ((rlc z x r).2).pc = r.pc := rfl
theorem rlc_low (z : Bool) (x : Byte) (r : RegFile) : ((rlc z x r).2).f &&& 0x0F#8 = 0#8 := and_F0_low _

@[simp] theorem rl_a (z : Bool) (x : Byte) (r : RegFile) : ((rl z x r).2).a = r.a := rfl
@[simp] theorem rl_b (z : Bool) (x : Byte) (r : RegFile) : ((rl z x r).2).b = r.b := rfl
@[simp] theorem rl_c (z : Bool) (x : Byte) (r : RegFile) : ((rl z x r).2).c = r.c := rfl
@[simp] theorem rl_d (z : Bool) (x : Byte) (r : RegFile) : ((rl z x r).2).d = r.d := rfl
@[simp] theorem rl_e (z : Bool) (x : Byte) (r : RegFile) : ((rl z x r).2).e = r.e := rfl
@[simp] theorem rl_h (z : Bool) (x : Byte) (r : RegFile) : ((rl z x r).2).h = r.h := rfl
@[simp] theorem rl_l (z : Bool) (x : Byte) (r : RegFile) : ((rl z x r).2).l = r.l := rfl
@[simp] theorem rl_sp (z : Bool) (x : Byte) (r : RegFile) : ((rl z x r).2).sp = r.sp := rfl
@[simp] theorem rl_pc (z : Bool) (x : Byte) (r : RegFile) : ((rl z x r).2).pc = r.pc := rfl
theorem rl_low (z : Bool) (x : Byte) (r : RegFile) : ((rl z x r).2).f &&& 0x0F#8 = 0#8 := and_F0_low _

@[simp] theorem rrc_a (z : Bool) (x : Byte) (r : RegFile) : ((rrc z x r).2).a = r.a := rfl
@[simp] theorem rrc_b (z : Bool) (x : Byte) (r : RegFile) : ((rrc z x r).2).b = r.b := rfl
@[simp] theorem rrc_c (z : Bool) (x : Byte) (r : RegFile) : ((rrc z x r).2).c = r.c := rfl
@[simp] theorem rrc_d (z : Bool) (x : Byte) (r : RegFile) : ((rrc z x r).2).d = r.d := rfl
@[simp] theorem rrc_e (z : Bool) (x : Byte) (r : RegFile) : ((rrc z x r).2).e = r.e := rfl
@[simp] theorem rrc_h (z : Bool) (x : Byte) (r : RegFile) : ((rrc z x r).2).h = r.h := rfl
@[simp] theorem rrc_l (z : Bool) (x : Byte) (r : RegFile) : ((rrc z x r).2).l = r.l := rfl
@[simp] theorem rrc_sp (z : Bool) (x : Byte) (r : RegFile) : ((rrc z x r).2).sp = r.sp := rfl
@[simp] theorem rrc_pc (z : Bool) (x : Byte) (r : RegFile) : ((rrc z x r).2).pc = r.pc := rfl
theorem rrc_low (z : Bool) (x : Byte) (r : RegFile) : ((rrc z x r).2).f &&& 0x0F#8 = 0#8 := and_F0_low _

@[simp] theorem rr_a (z : Bool) (x : Byte) (r : RegFile) : ((rr z x r).2).a = r.a := rfl
@[simp] theorem rr_b (z : Bool) (x : Byte) (r : RegFile) : ((rr z x r).2).b = r.b := rfl
@[simp] theorem rr_c (z : Bool) (x : Byte) (r : RegFile) : ((rr z x r).2).c = r.c := rfl
@[simp] theorem rr_d (z : Bool) (x : Byte) (r : RegFile) : ((rr z x r).2).d = r.d := rfl
@[simp] theorem rr_e (z : Bool) (x : Byte) (r : RegFile) : ((rr z x r).2).e = r.e := rfl
@[simp] theorem rr_h (z : Bool) (x : Byte) (r : RegFile) : ((rr z x r).2).h = r.h := rfl
@[simp] theorem rr_l (z : Bool) (x : Byte) (r : RegFile) : ((rr z x r).2).l = r.l := rfl
@[simp] theorem rr_sp (z : Bool) (x : Byte) (r : RegFile) : ((rr z x r).2).sp = r.sp := rfl
@[simp] theorem rr_pc (z : Bool) (x : Byte) (r : RegFile) : ((rr z x r).2).pc = r.pc := rfl
theorem rr_low (z : Bool) (x : Byte) (r : RegFile) : ((rr z x r).2).f &&& 0x0F#8 = 0#8 := and_F0_low _

@[simp] theorem sla_a (x : Byte) (r : RegFile) : ((sla x r).2).a = r.a := rfl
@[simp] theorem sla_b (x : Byte) (r : RegFile) : ((sla x r).2).b = r.b := rfl
@[simp] theorem sla_c (x : Byte) (r : RegFile) : ((sla x r).2).c = r.c := rfl
@[simp] theorem sla_d (x : Byte) (r : RegFile) : ((sla x r).2).d = r.d := rfl
@[simp] theorem sla_e (x : Byte) (r : RegFile) : ((sla x r).2).e = r.e := rfl
@[simp] theorem sla_h (x : Byte) (r : RegFile) : ((sla x r).2).h = r.h := rfl
@[simp] theorem sla_l (x : Byte) (r : RegFile) : ((sla x r).2).l = r.l := rfl
@[simp] theorem sla_sp (x : Byte) (r : RegFile) : ((sla x r).2).sp = r.sp := rfl
@[simp] theorem sla_pc (x : Byte) (r : RegFile) : ((sla x r).2).pc = r.pc := rfl
theorem sla_low (x : Byte) (r : RegFile) : ((sla x r).2).f &&& 0x0F#8 = 0#8 := and_F0_low _

@[simp] theorem sra_a (x : Byte) (r : RegFile) : ((sra x r).2).a = r.a := rfl
@[simp] theorem sra_b (x : Byte) (r : RegFile) : ((sra x r).2).b = r.b := rfl
@[simp] theorem sra_c (x : Byte) (r : RegFile) : ((sra x r).2).c = r.c := rfl
@[simp] theorem sra_d (x : Byte) (r : RegFile) : ((sra x r).2).d = r.d := rfl
@[simp] theorem sra_e (x : Byte) (r : RegFile) : ((sra x r).2).e = r.e := rfl
@[simp] theorem sra_h (x : Byte) (r : RegFile) : ((sra x r).2).h = r.h := rfl
@[simp] theorem sra_l (x : Byte) (r : RegFile) : ((sra x r).2).l = r.l := rfl
@[simp] theorem sra_sp (x : Byte) (r : RegFile) : ((sra x r).2).sp = r.sp := rfl
@[simp] theorem sra_pc (x : Byte) (r : RegFile) : ((sra x r).2).pc = r.pc := rfl
theorem sra_low (x : Byte) (r : RegFile) : ((sra x r).2).f &&& 0x0F#8 = 0#8 := and_F0_low _

@[simp] theorem srl_a (x : Byte) (r : RegFile) : ((srl x r).2).a = r.a := rfl
@[simp] theorem srl_b (x : Byte) (r : RegFile) : ((srl x r).2).b = r.b := rfl
@[simp] theorem srl_c (x : Byte) (r : RegFile) : ((srl x r).2).c = r.c := rfl
@[simp] theorem srl_d (x : Byte) (r : RegFile) : ((srl x r).2).d = r.d := rfl
@[simp] theorem srl_e (x : Byte) (r : RegFile) : ((srl x r).2).e = r.e := rfl
@[simp] theorem srl_h (x : Byte) (r : RegFile) : ((srl x r).2).h = r.h := rfl
@[simp] theorem srl_l (x : Byte) (r : RegFile) : ((srl x r).2).l = r.l := rfl
@[simp] theorem srl_sp (x : Byte) (r : RegFile) : ((srl x r).2).sp = r.sp := rfl
@[simp] theorem srl_pc (x : Byte) (r : RegFile) : ((srl x r).2).pc = r.pc := rfl
theorem srl_low (x : Byte) (r : RegFile) : ((srl x r).2).f &&& 0x0F#8 = 0#8 := and_F0_low _

@[simp] theorem swap_a (x : Byte) (r : RegFile) : ((swap x r).2).a = r.a := rfl
@[simp] theorem swap_b (x : Byte) (r : RegFile) : ((swap x r).2).b = r.b := rfl
@[simp] theorem swap_c (x : Byte) (r : RegFile) : ((swap x r).2).c = r.c := rfl
@[simp] theorem swap_d (x : Byte) (r : RegFile) : ((swap x r).2).d = r.d := rfl
@[simp] theorem swap_e (x : Byte) (r : RegFile) : ((swap x r).2).e = r.e := rfl
@[simp] theorem swap_h (x : Byte) (r : RegFile) : ((swap x r).2).h = r.h := rfl
@[simp] theorem swap_l (x : Byte) (r : RegFile) : ((swap x r).2).l = r.l := rfl
@[simp] theorem swap_sp (x : Byte) (r : RegFile) : ((swap x r).2).sp = r.sp := rfl
@[simp] theorem swap_pc (x : Byte) (r : RegFile) : ((swap x r).2).pc = r.pc := rfl
theorem swap_low (x : Byte) (r : RegFile) : ((swap x r).2).f &&& 0x0F#8 = 0#8 := and_F0_low _

end Sys2Proof.Machine
end

