-- ==== Sys2Proof/Laws/Memory.lean ====
section
/-! SUPPORT. The laws of the bus content: what a read gives after a write, and that every write keeps the canonical
form, in which equal contents are equal data. -/

namespace Sys2Proof.Machine

/-- The canonical form of a list with a first entry. -/
theorem Memory.wf_cons (k : Nat) (b : Byte) (m : Memory) :
    Memory.wf ((k, b) :: m) = true ↔
      k < 65536 ∧ b ≠ Config.unlistedByte ∧ (∀ c ∈ m, k < c.1) ∧ Memory.wf m = true := by
  simp [Memory.wf, and_assoc]

/-- An address below every listed one reads as an unlisted address does. -/
theorem Memory.read_of_lt (m : Memory) (a : Nat) (h : ∀ c ∈ m, a < c.1) :
    Memory.read m a = Config.unlistedByte := by
  induction m with
  | nil => rfl
  | cons c m ih =>
    obtain ⟨k, b⟩ := c
    have hk : a < k := h (k, b) (by simp)
    rw [Memory.read, if_neg (by omega)]
    exact ih fun c hc => h c (by simp [hc])

/-- A write leaves every other address alone. -/
theorem Memory.read_write_other (m : Memory) (a b : Nat) (v : Byte) (h : b ≠ a) :
    Memory.read (Memory.write m a v) b = Memory.read m b := by
  induction m with
  | nil =>
    unfold Memory.write
    split <;> simp [Memory.read, Ne.symm h]
  | cons c m ih =>
    obtain ⟨k, w⟩ := c
    unfold Memory.write
    split
    · split <;> simp [Memory.read, Ne.symm h]
    · split
      · subst a
        split <;> simp [Memory.read, Ne.symm h]
      · simp [Memory.read, ih]

/-- A read after a write to the same address gives the value written. -/
theorem Memory.read_write_same (m : Memory) (a : Nat) (v : Byte) (hm : Memory.wf m = true) :
    Memory.read (Memory.write m a v) a = v := by
  induction m with
  | nil =>
    unfold Memory.write
    split <;> simp_all [Memory.read]
  | cons c m ih =>
    obtain ⟨k, w⟩ := c
    obtain ⟨-, -, hlt, hw⟩ := (Memory.wf_cons k w m).1 hm
    unfold Memory.write
    split
    · rename_i hak
      split
      · subst v
        exact Memory.read_of_lt _ _ fun c hc => by
          rcases List.mem_cons.1 hc with rfl | hc
          · exact hak
          · exact Nat.lt_trans hak (hlt c hc)
      · simp [Memory.read]
    · split
      · subst a
        split
        · subst v
          exact Memory.read_of_lt _ _ hlt
        · simp [Memory.read]
      · rename_i h2
        rw [Memory.read, if_neg (Ne.symm h2)]
        exact ih hw

/-- The addresses a write lists: the old ones and perhaps its own. -/
theorem Memory.mem_write (m : Memory) (a : Nat) (v : Byte) (c : Host.Cell) (h : c ∈ Memory.write m a v) :
    c ∈ m ∨ c.1 = a := by
  induction m with
  | nil =>
    unfold Memory.write at h
    split at h <;> simp_all
  | cons d m ih =>
    obtain ⟨k, w⟩ := d
    unfold Memory.write at h
    split at h
    · split at h
      · exact .inl h
      · rcases List.mem_cons.1 h with rfl | h
        · exact .inr rfl
        · exact .inl h
    · split at h
      · split at h
        · exact .inl (List.mem_cons_of_mem _ h)
        · rcases List.mem_cons.1 h with rfl | h
          · exact .inr rfl
          · exact .inl (List.mem_cons_of_mem _ h)
      · rcases List.mem_cons.1 h with rfl | h
        · exact .inl (by simp)
        · exact (ih h).imp (List.mem_cons_of_mem _) id

/-- A write keeps the canonical form. -/
theorem Memory.wf_write (m : Memory) (a : Nat) (v : Byte) (ha : a < 65536) (hm : Memory.wf m = true) :
    Memory.wf (Memory.write m a v) = true := by
  induction m with
  | nil =>
    unfold Memory.write
    split
    · rfl
    · exact (Memory.wf_cons a v []).2 ⟨ha, ‹_›, by simp, rfl⟩
  | cons c m ih =>
    obtain ⟨k, w⟩ := c
    obtain ⟨hk, hne, hlt, hw⟩ := (Memory.wf_cons k w m).1 hm
    unfold Memory.write
    split
    · rename_i hak
      split
      · exact hm
      · refine (Memory.wf_cons a v _).2 ⟨ha, ‹_›, fun c hc => ?_, hm⟩
        rcases List.mem_cons.1 hc with rfl | hc
        · exact hak
        · exact Nat.lt_trans hak (hlt c hc)
    · split
      · subst a
        split
        · exact hw
        · exact (Memory.wf_cons k v m).2 ⟨hk, ‹_›, hlt, hw⟩
      · refine (Memory.wf_cons k w _).2 ⟨hk, hne, fun c hc => ?_, ih hw⟩
        rcases Memory.mem_write m a v c hc with hc | hc
        · exact hlt c hc
        · omega

/-- Several writes keep the canonical form. -/
theorem Memory.wf_writeBytes (bs : List Byte) (m : Memory) (a : Word) (hm : Memory.wf m = true) :
    Memory.wf (Memory.writeBytes m a bs) = true := by
  induction bs generalizing m a with
  | nil => exact hm
  | cons b bs ih => exact ih _ _ (Memory.wf_write m a.toNat b a.isLt hm)

/-- A listed byte is what its address reads as. -/
theorem Memory.read_head (k : Nat) (b : Byte) (m : Memory) : Memory.read ((k, b) :: m) k = b := by
  simp [Memory.read]

/-- Two contents in canonical form that read alike are equal. -/
theorem Memory.ext_of_read (m n : Memory) (hm : Memory.wf m = true) (hn : Memory.wf n = true)
    (h : ∀ a, Memory.read m a = Memory.read n a) : m = n := by
  induction m generalizing n with
  | nil =>
    cases n with
    | nil => rfl
    | cons d n =>
      obtain ⟨j, w⟩ := d
      obtain ⟨-, hw, -, -⟩ := (Memory.wf_cons j w n).1 hn
      exact absurd ((Memory.read_head j w n).symm.trans (h j).symm) hw
  | cons c m ih =>
    obtain ⟨k, v⟩ := c
    obtain ⟨-, hv, hlt, hwm⟩ := (Memory.wf_cons k v m).1 hm
    cases n with
    | nil => exact absurd ((Memory.read_head k v m).symm.trans (h k)) hv
    | cons d n =>
      obtain ⟨j, w⟩ := d
      obtain ⟨-, hw, hlt', hwn⟩ := (Memory.wf_cons j w n).1 hn
      have hkj : k = j := by
        rcases Nat.lt_trichotomy k j with hl | he | hl
        · refine absurd ((Memory.read_head k v m).symm.trans ((h k).trans
            (Memory.read_of_lt ((j, w) :: n) k fun c hc => ?_))) hv
          rcases List.mem_cons.1 hc with rfl | hc
          · exact hl
          · exact Nat.lt_trans hl (hlt' c hc)
        · exact he
        · refine absurd ((Memory.read_head j w n).symm.trans ((h j).symm.trans
            (Memory.read_of_lt ((k, v) :: m) j fun c hc => ?_))) hw
          rcases List.mem_cons.1 hc with rfl | hc
          · exact hl
          · exact Nat.lt_trans hl (hlt c hc)
      subst hkj
      have hvw : v = w := by simpa [Memory.read] using h k
      subst hvw
      refine congrArg _ (ih n hwm hwn fun a => ?_)
      by_cases ha : k = a
      · subst ha
        rw [Memory.read_of_lt m k hlt, Memory.read_of_lt n k hlt']
      · simpa [Memory.read, ha] using h a

/-- The content at reset is in canonical form. -/
theorem State.reset_content : Memory.wf State.reset.bus.mem = true := rfl

/-! ## The operations on the bus -/

/-- A bus write keeps the canonical form. -/
theorem State.memWrite_wf (a : Word) (v : Byte) (s : State) (h : Memory.wf s.bus.mem = true) :
    Memory.wf (s.memWrite a v).bus.mem = true :=
  Memory.wf_write _ _ _ a.isLt h

/-- A bus read changes no content. -/
theorem State.memRead_content (a : Word) (s : State) : (s.memRead a).2.bus.mem = s.bus.mem := rfl

/-- A push keeps the canonical form. -/
theorem State.push16_wf (v : Word) (s : State) (h : Memory.wf s.bus.mem = true) :
    Memory.wf (s.push16 v).bus.mem = true :=
  Memory.wf_write _ _ _ (s.rf.sp - 1 - 1).isLt (Memory.wf_write _ _ _ (s.rf.sp - 1).isLt h)

/-- Placing bytes for a fetch keeps the canonical form. -/
theorem State.placeBytes_wf (bs : List Byte) (n : Nat) (s : State) (h : Memory.wf s.bus.mem = true) :
    Memory.wf (s.placeBytes bs n).bus.mem = true :=
  Memory.wf_writeBytes bs _ _ h

end Sys2Proof.Machine
end

