-- ==== Sys2Proof/Laws/Ops.lean ====
section
/-! SUPPORT. Everything each shared operation can do, once: what it answers, as one equation or one case split, so that
no later proof unfolds it. -/

namespace Sys2Proof.Machine

/-! ## The ends of a handler -/

/-- `ret` answers one next state: its argument with the extra cycles set. -/
@[simp] theorem ret_next (n : Nat) (s t : State) : ret n s = .next t ↔ t = { s with extra := n } := by
  rw [ret, Host.Outcome.next.injEq]; exact eq_comm

/-- `raise` answers one next state: its argument with the latch set. -/
@[simp] theorem raise_next (k : Fault) (s t : State) : raise k s = .next t ↔ t = { s with fault := some k } := by
  rw [raise, Host.Outcome.next.injEq]; exact eq_comm

/-! ## The bus, operand fetch and the stack -/

/-- What the bus answers: its next reply, or the content where it has none or the next is `none`. -/
theorem Bus.answer_cases (u : Bus) (a : Word) :
    (∃ v rest, u.replies = some v :: rest ∧ u.answer a = v) ∨
      ((u.replies = [] ∨ ∃ rest, u.replies = none :: rest) ∧ u.answer a = Memory.read u.mem a.toNat) := by
  match h : u.replies with
  | [] => exact .inr ⟨.inl rfl, by simp only [Bus.answer, h]⟩
  | none :: rest => exact .inr ⟨.inr ⟨rest, rfl⟩, by simp only [Bus.answer, h]⟩
  | some v :: rest => exact .inl ⟨v, rest, rfl, by simp only [Bus.answer, h]⟩

/-- Without replies the bus answers from its content. -/
theorem Bus.answer_content (u : Bus) (a : Word) (h : u.replies = []) : u.answer a = Memory.read u.mem a.toNat := by
  simp only [Bus.answer, h]

/-- A 16-bit fetch: two byte fetches, the low byte first. -/
theorem State.fetch16_eq (s : State) :
    s.fetch16 =
      (mk16 (s.fetch8.2.bus.answer (s.rf.pc + 1)) (s.bus.answer s.rf.pc), s.fetch8.2.fetch8.2) := rfl

/-- A push: the high byte below SP, the low byte below that, SP two lower. -/
theorem State.push16_eq (v : Word) (s : State) :
    s.push16 v =
      ((s.memWrite (s.rf.sp - 1) (hi8 v)).memWrite (s.rf.sp - 1 - 1) (lo8 v)).setSp (s.rf.sp - 1 - 1) := rfl

/-- A pop: the low byte at SP, the high byte one above, SP two higher. -/
theorem State.pop16_eq (s : State) :
    s.pop16 =
      (mk16 ((s.memRead s.rf.sp).2.bus.answer (s.rf.sp + 1)) (s.bus.answer s.rf.sp),
        ((s.memRead s.rf.sp).2.memRead (s.rf.sp + 1)).2.setSp (s.rf.sp + 1 + 1)) := rfl

/-! ## The `r8` operand -/

/-- Reading an `r8` operand: a bus read at HL for index 6; for any other index no bus call and no change. -/
theorem State.readR8_cases (i : R8) (s : State) :
    (i = .indHl ∧ s.readR8 i = s.memRead s.rf.hl) ∨ (i ≠ .indHl ∧ (s.readR8 i).2 = s) := by
  cases i <;> first | exact .inl ⟨rfl, rfl⟩ | exact .inr ⟨R8.noConfusion, rfl⟩

/-- Writing an `r8` operand: a bus write at HL for index 6; for any other index one register, and neither F, SP, PC nor
anything outside the register file. -/
theorem State.writeR8_cases (i : R8) (v : Byte) (s : State) :
    (i = .indHl ∧ s.writeR8 i v = s.memWrite s.rf.hl v) ∨
      (i ≠ .indHl ∧ ∃ r : RegFile, s.writeR8 i v = { s with rf := r } ∧ r.f = s.rf.f ∧ r.sp = s.rf.sp ∧ r.pc = s.rf.pc) := by
  cases i <;> first | exact .inl ⟨rfl, rfl⟩ | exact .inr ⟨R8.noConfusion, _, rfl, rfl, rfl, rfl⟩

/-- An index names a register exactly when it is not 6. -/
theorem R8.isReg_iff (i : R8) : i.isReg = true ↔ i ≠ .indHl := by cases i <;> decide

/-- Reading a pair never depends on PC. -/
theorem RegFile.get16_pair (p : R16) (r : RegFile) (w : Word) : { r with pc := w }.get16 (r16Id p) = r.get16 (r16Id p) := by
  cases p <;> rfl

/-! ## Running a primitive on an operand -/

/-- An accumulator primitive on `r8[i]`. -/
theorem accR8_next (g : Byte → RegFile → RegFile) (i : R8) (s t : State) :
    accR8 g i s = .next t ↔ t = { (s.readR8 i).2 with rf := g (s.readR8 i).1 (s.readR8 i).2.rf, extra := 0 } :=
  ret_next 0 _ t

/-- An accumulator primitive on the byte at HL. -/
theorem accIndHl_next (g : Byte → RegFile → RegFile) (s t : State) :
    accIndHl g s = .next t ↔
      t = { (s.memRead s.rf.hl).2 with rf := g (s.bus.answer s.rf.hl) s.rf, extra := 0 } := ret_next 0 _ t

/-- An accumulator primitive on an immediate. -/
theorem accD8_next (g : Byte → RegFile → RegFile) (v : Byte) (s t : State) :
    accD8 g v s = .next t ↔ t = { s with rf := g v s.rf, extra := 0 } := ret_next 0 _ t

/-- An operand primitive on `r8[i]`. -/
theorem modR8_next (g : Byte → RegFile → Byte × RegFile) (i : R8) (s t : State) :
    modR8 g i s = .next t ↔
      t = { ((s.readR8 i).2.setRf (g (s.readR8 i).1 (s.readR8 i).2.rf).2).writeR8 i
              (g (s.readR8 i).1 (s.readR8 i).2.rf).1 with extra := 0 } := ret_next 0 _ t

/-- An operand primitive on the byte at HL. -/
theorem modIndHl_next (g : Byte → RegFile → Byte × RegFile) (s t : State) :
    modIndHl g s = .next t ↔
      t = { ((s.memRead s.rf.hl).2.setRf (g (s.bus.answer s.rf.hl) s.rf).2).memWrite s.rf.hl
              (g (s.bus.answer s.rf.hl) s.rf).1 with extra := 0 } := ret_next 0 _ t

/-- An operand primitive on A. -/
theorem modA_next (g : Byte → RegFile → Byte × RegFile) (s t : State) :
    modA g s = .next t ↔ t = { s with rf := { (g s.rf.a s.rf).2 with a := (g s.rf.a s.rf).1 }, extra := 0 } := ret_next 0 _ t

/-- A load of A from the bus. -/
theorem loadA_next (a : Word) (s t : State) :
    loadA a s = .next t ↔ t = { (s.memRead a).2 with rf := { s.rf with a := s.bus.answer a }, extra := 0 } := ret_next 0 _ t

/-- A store of A to the bus. -/
theorem storeA_next (a : Word) (s t : State) :
    storeA a s = .next t ↔ t = { s.memWrite a s.rf.a with extra := 0 } := ret_next 0 _ t

/-! ## The engine -/

/-- The operand bytes of a form are fetched, then its instruction runs. -/
theorem runForm_cases (f : Form) (s : State) :
    (∃ i, f = .op i ∧ runForm f s = exec i s) ∨
    (∃ k, f = .imm8 k ∧ runForm f s = exec (k s.fetch8.1) s.fetch8.2) ∨
    (∃ k, f = .imm16 k ∧ runForm f s = exec (k s.fetch16.1) s.fetch16.2) := by
  cases f with
  | op i => exact .inl ⟨i, rfl, rfl⟩
  | imm8 k => exact .inr (.inl ⟨k, rfl, rfl⟩)
  | imm16 k => exact .inr (.inr ⟨k, rfl, rfl⟩)

/-- The opcode fetch: one byte, or two and table 1 after the prefix byte. -/
theorem State.fetchOpcode_cases (s : State) :
    (s.bus.answer s.rf.pc = Config.prefixByte ∧
      s.fetchOpcode = (.t1, s.fetch8.2.bus.answer (s.rf.pc + 1), s.fetch8.2.fetch8.2)) ∨
    (s.bus.answer s.rf.pc ≠ Config.prefixByte ∧ s.fetchOpcode = (.t0, s.bus.answer s.rf.pc, s.fetch8.2)) := by
  by_cases h : s.bus.answer s.rf.pc = Config.prefixByte
  · exact .inl ⟨h, by simp only [State.fetchOpcode, State.fetch8_value, h, if_true]; rfl⟩
  · exact .inr ⟨h, by simp only [State.fetchOpcode, State.fetch8_value, h, if_false]⟩

/-- What the end of a dispatch answers: after a fault the same state; else the cost in the countdown. -/
theorem conclude_next (t : TableIx) (op : Byte) (o : Result) (u : State) (h : conclude t op o = .next u) :
    ∃ s, o = .next s ∧
      ((s.fault ≠ none ∧ u = s) ∨ (s.fault = none ∧ u = { s with countdown := Timing.base s.timing t op + s.extra })) := by
  cases o with
  | next s =>
    refine ⟨s, rfl, ?_⟩
    cases hf : s.fault with
    | some k => simp only [conclude, hf, Host.Outcome.next.injEq] at h; exact .inl ⟨nofun, h.symm⟩
    | none => simp only [conclude, hf, Host.Outcome.next.injEq] at h; exact .inr ⟨rfl, h.symm⟩
  | fault k => cases h
  | refused r => cases h

end Sys2Proof.Machine
end

