-- ==== Sys2Proof/Laws/PerInstr.lean ====
section
/-! SUPPORT. Statements about every instruction as syntax, one lemma per constructor. -/

namespace Sys2Proof.Laws

/-- The number of bytes of an instruction: the `bytes` column of 30_encoding.md R68, R76, R77. -/
def formatBytes : Instr → Nat
  | .nop => 1
  | .ldIndBcA => 1
  | .incRr _ => 1
  | .incR _ => 1
  | .decR _ => 1
  | .rlca => 1
  | .addHlRr _ => 1
  | .ldAIndBc => 1
  | .decRr _ => 1
  | .rrca => 1
  | .stop => 1
  | .ldIndDeA => 1
  | .rla => 1
  | .ldAIndDe => 1
  | .rra => 1
  | .ldIndHlIncA => 1
  | .daa => 1
  | .ldAIndHlInc => 1
  | .cpl => 1
  | .ldIndHlDecA => 1
  | .incIndHl => 1
  | .decIndHl => 1
  | .scf => 1
  | .ldAIndHlDec => 1
  | .ccf => 1
  | .ldRR _ _ => 1
  | .ldRIndHl _ => 1
  | .ldIndHlR _ => 1
  | .halt => 1
  | .addAR _ => 1
  | .addAIndHl => 1
  | .adcAR _ => 1
  | .adcAIndHl => 1
  | .subR _ => 1
  | .subIndHl => 1
  | .sbcAR _ => 1
  | .sbcAIndHl => 1
  | .andR _ => 1
  | .andIndHl => 1
  | .xorR _ => 1
  | .xorIndHl => 1
  | .orR _ => 1
  | .orIndHl => 1
  | .cpR _ => 1
  | .cpIndHl => 1
  | .retCc _ => 1
  | .popRr _ => 1
  | .pushRr _ => 1
  | .rstT _ => 1
  | .ret => 1
  | .prefixCb => 1
  | .illegalD3 => 1
  | .reti => 1
  | .illegalDB => 1
  | .illegalDD => 1
  | .ldIndCA => 1
  | .illegalE3 => 1
  | .illegalE4 => 1
  | .jpHl => 1
  | .illegalEB => 1
  | .illegalEC => 1
  | .illegalED => 1
  | .ldAIndC => 1
  | .di => 1
  | .illegalF4 => 1
  | .ldSpHl => 1
  | .ei => 1
  | .illegalFC => 1
  | .illegalFD => 1
  | .ldRD8 _ _ => 2
  | .jrE8 _ => 2
  | .jrCcE8 _ _ => 2
  | .ldIndHlD8 _ => 2
  | .addAD8 _ => 2
  | .adcAD8 _ => 2
  | .subD8 _ => 2
  | .sbcAD8 _ => 2
  | .ldhIndA8A _ => 2
  | .andD8 _ => 2
  | .addSpE8 _ => 2
  | .xorD8 _ => 2
  | .ldhAIndA8 _ => 2
  | .orD8 _ => 2
  | .ldHlSpE8 _ => 2
  | .cpD8 _ => 2
  | .rlcR _ => 2
  | .rlcIndHl => 2
  | .rrcR _ => 2
  | .rrcIndHl => 2
  | .rlR _ => 2
  | .rlIndHl => 2
  | .rrR _ => 2
  | .rrIndHl => 2
  | .slaR _ => 2
  | .slaIndHl => 2
  | .sraR _ => 2
  | .sraIndHl => 2
  | .swapR _ => 2
  | .swapIndHl => 2
  | .srlR _ => 2
  | .srlIndHl => 2
  | .bitR _ _ => 2
  | .bitIndHl _ => 2
  | .resR _ _ => 2
  | .resIndHl _ => 2
  | .setR _ _ => 2
  | .setIndHl _ => 2
  | .ldRrD16 _ _ => 3
  | .ldIndA16Sp _ => 3
  | .jpCcA16 _ _ => 3
  | .jpA16 _ => 3
  | .callCcA16 _ _ => 3
  | .callA16 _ => 3
  | .ldIndA16A _ => 3
  | .ldAIndA16 _ => 3

namespace EncodeLength

/-- The encoder writes as many bytes as the format has (R68). -/
def Statement (i : Instr) : Prop := (encode i).length = formatBytes i

theorem nop : Statement (.nop) := rfl
theorem ldRrD16 (p : R16) (v : Word) : Statement (.ldRrD16 p v) := rfl
theorem ldIndBcA : Statement (.ldIndBcA) := rfl
theorem incRr (p : R16) : Statement (.incRr p) := rfl
theorem incR (dst : R8) : Statement (.incR dst) := rfl
theorem decR (dst : R8) : Statement (.decR dst) := rfl
theorem ldRD8 (dst : R8) (v : Byte) : Statement (.ldRD8 dst v) := rfl
theorem rlca : Statement (.rlca) := rfl
theorem ldIndA16Sp (a : Word) : Statement (.ldIndA16Sp a) := rfl
theorem addHlRr (p : R16) : Statement (.addHlRr p) := rfl
theorem ldAIndBc : Statement (.ldAIndBc) := rfl
theorem decRr (p : R16) : Statement (.decRr p) := rfl
theorem rrca : Statement (.rrca) := rfl
theorem stop : Statement (.stop) := rfl
theorem ldIndDeA : Statement (.ldIndDeA) := rfl
theorem rla : Statement (.rla) := rfl
theorem jrE8 (e : Byte) : Statement (.jrE8 e) := rfl
theorem ldAIndDe : Statement (.ldAIndDe) := rfl
theorem rra : Statement (.rra) := rfl
theorem jrCcE8 (cc : Cond) (e : Byte) : Statement (.jrCcE8 cc e) := rfl
theorem ldIndHlIncA : Statement (.ldIndHlIncA) := rfl
theorem daa : Statement (.daa) := rfl
theorem ldAIndHlInc : Statement (.ldAIndHlInc) := rfl
theorem cpl : Statement (.cpl) := rfl
theorem ldIndHlDecA : Statement (.ldIndHlDecA) := rfl
theorem incIndHl : Statement (.incIndHl) := rfl
theorem decIndHl : Statement (.decIndHl) := rfl
theorem ldIndHlD8 (v : Byte) : Statement (.ldIndHlD8 v) := rfl
theorem scf : Statement (.scf) := rfl
theorem ldAIndHlDec : Statement (.ldAIndHlDec) := rfl
theorem ccf : Statement (.ccf) := rfl
theorem ldRR (dst : R8) (src : R8) : Statement (.ldRR dst src) := rfl
theorem ldRIndHl (dst : R8) : Statement (.ldRIndHl dst) := rfl
theorem ldIndHlR (src : R8) : Statement (.ldIndHlR src) := rfl
theorem halt : Statement (.halt) := rfl
theorem addAR (src : R8) : Statement (.addAR src) := rfl
theorem addAIndHl : Statement (.addAIndHl) := rfl
theorem adcAR (src : R8) : Statement (.adcAR src) := rfl
theorem adcAIndHl : Statement (.adcAIndHl) := rfl
theorem subR (src : R8) : Statement (.subR src) := rfl
theorem subIndHl : Statement (.subIndHl) := rfl
theorem sbcAR (src : R8) : Statement (.sbcAR src) := rfl
theorem sbcAIndHl : Statement (.sbcAIndHl) := rfl
theorem andR (src : R8) : Statement (.andR src) := rfl
theorem andIndHl : Statement (.andIndHl) := rfl
theorem xorR (src : R8) : Statement (.xorR src) := rfl
theorem xorIndHl : Statement (.xorIndHl) := rfl
theorem orR (src : R8) : Statement (.orR src) := rfl
theorem orIndHl : Statement (.orIndHl) := rfl
theorem cpR (src : R8) : Statement (.cpR src) := rfl
theorem cpIndHl : Statement (.cpIndHl) := rfl
theorem retCc (cc : Cond) : Statement (.retCc cc) := rfl
theorem popRr (p : R16Stk) : Statement (.popRr p) := rfl
theorem jpCcA16 (cc : Cond) (a : Word) : Statement (.jpCcA16 cc a) := rfl
theorem jpA16 (a : Word) : Statement (.jpA16 a) := rfl
theorem callCcA16 (cc : Cond) (a : Word) : Statement (.callCcA16 cc a) := rfl
theorem pushRr (p : R16Stk) : Statement (.pushRr p) := rfl
theorem addAD8 (v : Byte) : Statement (.addAD8 v) := rfl
theorem rstT (t : BitVec 3) : Statement (.rstT t) := rfl
theorem ret : Statement (.ret) := rfl
theorem prefixCb : Statement (.prefixCb) := rfl
theorem callA16 (a : Word) : Statement (.callA16 a) := rfl
theorem adcAD8 (v : Byte) : Statement (.adcAD8 v) := rfl
theorem illegalD3 : Statement (.illegalD3) := rfl
theorem subD8 (v : Byte) : Statement (.subD8 v) := rfl
theorem reti : Statement (.reti) := rfl
theorem illegalDB : Statement (.illegalDB) := rfl
theorem illegalDD : Statement (.illegalDD) := rfl
theorem sbcAD8 (v : Byte) : Statement (.sbcAD8 v) := rfl
theorem ldhIndA8A (n : Byte) : Statement (.ldhIndA8A n) := rfl
theorem ldIndCA : Statement (.ldIndCA) := rfl
theorem illegalE3 : Statement (.illegalE3) := rfl
theorem illegalE4 : Statement (.illegalE4) := rfl
theorem andD8 (v : Byte) : Statement (.andD8 v) := rfl
theorem addSpE8 (e : Byte) : Statement (.addSpE8 e) := rfl
theorem jpHl : Statement (.jpHl) := rfl
theorem ldIndA16A (a : Word) : Statement (.ldIndA16A a) := rfl
theorem illegalEB : Statement (.illegalEB) := rfl
theorem illegalEC : Statement (.illegalEC) := rfl
theorem illegalED : Statement (.illegalED) := rfl
theorem xorD8 (v : Byte) : Statement (.xorD8 v) := rfl
theorem ldhAIndA8 (n : Byte) : Statement (.ldhAIndA8 n) := rfl
theorem ldAIndC : Statement (.ldAIndC) := rfl
theorem di : Statement (.di) := rfl
theorem illegalF4 : Statement (.illegalF4) := rfl
theorem orD8 (v : Byte) : Statement (.orD8 v) := rfl
theorem ldHlSpE8 (e : Byte) : Statement (.ldHlSpE8 e) := rfl
theorem ldSpHl : Statement (.ldSpHl) := rfl
theorem ldAIndA16 (a : Word) : Statement (.ldAIndA16 a) := rfl
theorem ei : Statement (.ei) := rfl
theorem illegalFC : Statement (.illegalFC) := rfl
theorem illegalFD : Statement (.illegalFD) := rfl
theorem cpD8 (v : Byte) : Statement (.cpD8 v) := rfl
theorem rlcR (src : R8) : Statement (.rlcR src) := rfl
theorem rlcIndHl : Statement (.rlcIndHl) := rfl
theorem rrcR (src : R8) : Statement (.rrcR src) := rfl
theorem rrcIndHl : Statement (.rrcIndHl) := rfl
theorem rlR (src : R8) : Statement (.rlR src) := rfl
theorem rlIndHl : Statement (.rlIndHl) := rfl
theorem rrR (src : R8) : Statement (.rrR src) := rfl
theorem rrIndHl : Statement (.rrIndHl) := rfl
theorem slaR (src : R8) : Statement (.slaR src) := rfl
theorem slaIndHl : Statement (.slaIndHl) := rfl
theorem sraR (src : R8) : Statement (.sraR src) := rfl
theorem sraIndHl : Statement (.sraIndHl) := rfl
theorem swapR (src : R8) : Statement (.swapR src) := rfl
theorem swapIndHl : Statement (.swapIndHl) := rfl
theorem srlR (src : R8) : Statement (.srlR src) := rfl
theorem srlIndHl : Statement (.srlIndHl) := rfl
theorem bitR (b : BitVec 3) (src : R8) : Statement (.bitR b src) := rfl
theorem bitIndHl (b : BitVec 3) : Statement (.bitIndHl b) := rfl
theorem resR (b : BitVec 3) (src : R8) : Statement (.resR b src) := rfl
theorem resIndHl (b : BitVec 3) : Statement (.resIndHl b) := rfl
theorem setR (b : BitVec 3) (src : R8) : Statement (.setR b src) := rfl
theorem setIndHl (b : BitVec 3) : Statement (.setIndHl b) := rfl

end EncodeLength

end Sys2Proof.Laws
end

