-- ==== Sys2Proof/Machine/Assembly.lean ====
section
/-! DEFINITION. The assembler syntax of 30_encoding.md R82 and the other spellings of R83: text only, no step reads it.
How a number is written is log 21. -/

namespace Sys2Proof.Machine

/-- An operand register; index 6 is the byte at HL (R70, R82). -/
def r8Text : R8 → String
  | .b => "B"
  | .c => "C"
  | .d => "D"
  | .e => "E"
  | .h => "H"
  | .l => "L"
  | .indHl => "(HL)"
  | .a => "A"

/-- A pair (R71, R82). -/
def r16Text : R16 → String
  | .bc => "BC"
  | .de => "DE"
  | .hl => "HL"
  | .sp => "SP"

/-- A stack pair (R71, R82). -/
def r16StkText : R16Stk → String
  | .bc => "BC"
  | .de => "DE"
  | .hl => "HL"
  | .af => "AF"

/-- A condition (R72, R82). -/
def condText : Cond → String
  | .nz => "NZ"
  | .z => "Z"
  | .nc => "NC"
  | .c => "C"

/-- The decimal digits of a number below 1000, no leading zero. -/
def decimal (n : Nat) : String :=
  String.ofList ((if 99 < n then [Nat.digitChar (n / 100)] else [])
    ++ (if 9 < n then [Nat.digitChar (n / 10 % 10)] else []) ++ [Nat.digitChar (n % 10)])

/-- The lowest `k` hexadecimal digits of a number, upper case (R5). -/
def hexDigits : Nat → Nat → List Char
  | 0, _ => []
  | k + 1, n => hexDigits k (n / 16) ++ [(Nat.digitChar (n % 16)).toUpper]

def hexByte (v : Byte) : String := "0x" ++ String.ofList (hexDigits 2 v.toNat)
def hexWord (v : Word) : String := "0x" ++ String.ofList (hexDigits 4 v.toNat)

/-- A displacement, signed (R69), with the given sign for a value that is not negative. -/
def signed (plus : String) (e : Byte) : String :=
  if sext8 e < 0 then "-" ++ decimal (256 - e.toNat) else plus ++ decimal e.toNat

/-- A restart target: two hexadecimal digits and `H` (R73, R82). -/
def restart (t : BitVec 3) : String := String.ofList (hexDigits 2 (8 * t.toNat)) ++ "H"

/-- An instruction as text (R82): the mnemonic, a space, the operands separated by a comma, destination first. -/
def asm : Instr → String
  | .nop => "NOP"
  | .ldRrD16 p v => "LD " ++ r16Text p ++ "," ++ hexWord v
  | .ldIndBcA => "LD (BC),A"
  | .incRr p => "INC " ++ r16Text p
  | .incR dst => "INC " ++ r8Text dst
  | .decR dst => "DEC " ++ r8Text dst
  | .ldRD8 dst v => "LD " ++ r8Text dst ++ "," ++ decimal v.toNat
  | .rlca => "RLCA"
  | .ldIndA16Sp a => "LD (" ++ hexWord a ++ "),SP"
  | .addHlRr p => "ADD HL," ++ r16Text p
  | .ldAIndBc => "LD A,(BC)"
  | .decRr p => "DEC " ++ r16Text p
  | .rrca => "RRCA"
  | .stop => "STOP"
  | .ldIndDeA => "LD (DE),A"
  | .rla => "RLA"
  | .jrE8 e => "JR " ++ signed "" e
  | .ldAIndDe => "LD A,(DE)"
  | .rra => "RRA"
  | .jrCcE8 cc e => "JR " ++ condText cc ++ "," ++ signed "" e
  | .ldIndHlIncA => "LD (HL+),A"
  | .daa => "DAA"
  | .ldAIndHlInc => "LD A,(HL+)"
  | .cpl => "CPL"
  | .ldIndHlDecA => "LD (HL-),A"
  | .incIndHl => "INC (HL)"
  | .decIndHl => "DEC (HL)"
  | .ldIndHlD8 v => "LD (HL)," ++ decimal v.toNat
  | .scf => "SCF"
  | .ldAIndHlDec => "LD A,(HL-)"
  | .ccf => "CCF"
  | .ldRR dst src => "LD " ++ r8Text dst ++ "," ++ r8Text src
  | .ldRIndHl dst => "LD " ++ r8Text dst ++ ",(HL)"
  | .ldIndHlR src => "LD (HL)," ++ r8Text src
  | .halt => "HALT"
  | .addAR src => "ADD A," ++ r8Text src
  | .addAIndHl => "ADD A,(HL)"
  | .adcAR src => "ADC A," ++ r8Text src
  | .adcAIndHl => "ADC A,(HL)"
  | .subR src => "SUB " ++ r8Text src
  | .subIndHl => "SUB (HL)"
  | .sbcAR src => "SBC A," ++ r8Text src
  | .sbcAIndHl => "SBC A,(HL)"
  | .andR src => "AND " ++ r8Text src
  | .andIndHl => "AND (HL)"
  | .xorR src => "XOR " ++ r8Text src
  | .xorIndHl => "XOR (HL)"
  | .orR src => "OR " ++ r8Text src
  | .orIndHl => "OR (HL)"
  | .cpR src => "CP " ++ r8Text src
  | .cpIndHl => "CP (HL)"
  | .retCc cc => "RET " ++ condText cc
  | .popRr p => "POP " ++ r16StkText p
  | .jpCcA16 cc a => "JP " ++ condText cc ++ "," ++ hexWord a
  | .jpA16 a => "JP " ++ hexWord a
  | .callCcA16 cc a => "CALL " ++ condText cc ++ "," ++ hexWord a
  | .pushRr p => "PUSH " ++ r16StkText p
  | .addAD8 v => "ADD A," ++ decimal v.toNat
  | .rstT t => "RST " ++ restart t
  | .ret => "RET"
  | .prefixCb => "PREFIX CB"
  | .callA16 a => "CALL " ++ hexWord a
  | .adcAD8 v => "ADC A," ++ decimal v.toNat
  | .illegalD3 => "ILLEGAL_D3"
  | .subD8 v => "SUB " ++ decimal v.toNat
  | .reti => "RETI"
  | .illegalDB => "ILLEGAL_DB"
  | .illegalDD => "ILLEGAL_DD"
  | .sbcAD8 v => "SBC A," ++ decimal v.toNat
  | .ldhIndA8A n => "LDH (" ++ hexByte n ++ "),A"
  | .ldIndCA => "LD (C),A"
  | .illegalE3 => "ILLEGAL_E3"
  | .illegalE4 => "ILLEGAL_E4"
  | .andD8 v => "AND " ++ decimal v.toNat
  | .addSpE8 e => "ADD SP," ++ signed "" e
  | .jpHl => "JP HL"
  | .ldIndA16A a => "LD (" ++ hexWord a ++ "),A"
  | .illegalEB => "ILLEGAL_EB"
  | .illegalEC => "ILLEGAL_EC"
  | .illegalED => "ILLEGAL_ED"
  | .xorD8 v => "XOR " ++ decimal v.toNat
  | .ldhAIndA8 n => "LDH A,(" ++ hexByte n ++ ")"
  | .ldAIndC => "LD A,(C)"
  | .di => "DI"
  | .illegalF4 => "ILLEGAL_F4"
  | .orD8 v => "OR " ++ decimal v.toNat
  | .ldHlSpE8 e => "LD HL,SP" ++ signed "+" e
  | .ldSpHl => "LD SP,HL"
  | .ldAIndA16 a => "LD A,(" ++ hexWord a ++ ")"
  | .ei => "EI"
  | .illegalFC => "ILLEGAL_FC"
  | .illegalFD => "ILLEGAL_FD"
  | .cpD8 v => "CP " ++ decimal v.toNat
  | .rlcR src => "RLC " ++ r8Text src
  | .rlcIndHl => "RLC (HL)"
  | .rrcR src => "RRC " ++ r8Text src
  | .rrcIndHl => "RRC (HL)"
  | .rlR src => "RL " ++ r8Text src
  | .rlIndHl => "RL (HL)"
  | .rrR src => "RR " ++ r8Text src
  | .rrIndHl => "RR (HL)"
  | .slaR src => "SLA " ++ r8Text src
  | .slaIndHl => "SLA (HL)"
  | .sraR src => "SRA " ++ r8Text src
  | .sraIndHl => "SRA (HL)"
  | .swapR src => "SWAP " ++ r8Text src
  | .swapIndHl => "SWAP (HL)"
  | .srlR src => "SRL " ++ r8Text src
  | .srlIndHl => "SRL (HL)"
  | .bitR b src => "BIT " ++ decimal b.toNat ++ "," ++ r8Text src
  | .bitIndHl b => "BIT " ++ decimal b.toNat ++ ",(HL)"
  | .resR b src => "RES " ++ decimal b.toNat ++ "," ++ r8Text src
  | .resIndHl b => "RES " ++ decimal b.toNat ++ ",(HL)"
  | .setR b src => "SET " ++ decimal b.toNat ++ "," ++ r8Text src
  | .setIndHl b => "SET " ++ decimal b.toNat ++ ",(HL)"

/-- Spellings other toolchains use, each with the one of R82 (R83). -/
def otherSpellings : List (String × String) := [
  ("LDI (HL),A", "LD (HL+),A"), ("LD (HLI),A", "LD (HL+),A"), ("LDI A,(HL)", "LD A,(HL+)"), ("LD A,(HLI)", "LD A,(HL+)"),
  ("LDD (HL),A", "LD (HL-),A"), ("LD (HLD),A", "LD (HL-),A"), ("LDD A,(HL)", "LD A,(HL-)"), ("LD A,(HLD)", "LD A,(HL-)"),
  ("LD (FF00+C),A", "LD (C),A"), ("LDH (C),A", "LD (C),A"), ("LD A,(FF00+C)", "LD A,(C)"), ("LDH A,(C)", "LD A,(C)"),
  ("LD (FF00+a8),A", "LDH (a8),A"), ("LD A,(FF00+a8)", "LDH A,(a8)"), ("LDHL SP,e8", "LD HL,SP+e8"), ("JP (HL)", "JP HL"),
  ("ADD r", "ADD A,r"), ("ADC r", "ADC A,r"), ("SBC r", "SBC A,r"), ("SUB A,r", "SUB r"), ("AND A,r", "AND r"),
  ("XOR A,r", "XOR r"), ("OR A,r", "OR r"), ("CP A,r", "CP r")]

/-- What an assembler encodes for a label in `JR e8` and `JR cc,e8` at an address: `target - (address + 2)` (R82). -/
def labelDisplacement (address target : Word) : Byte := lo8 (target - (address + 2))

end Sys2Proof.Machine
end

