-- ==== Sys2Proof/Machine/Timing.lean ====
section
/-! DEFINITION. The informative base-timing table of 70_reset_and_hazards.md R328, as data. No rule depends on it and no
step reads it: a host may construct a Processor with it (log 4). -/

namespace Sys2Proof.Machine

/-- The base cost of an instruction in clock cycles, the not-taken cost for the conditional forms (R328). 0 stands for "no
DMG value; any". -/
def dmgCost : Instr → Nat
  | .nop => 4
  | .incR _ => 4
  | .decR _ => 4
  | .rlca => 4
  | .rrca => 4
  | .stop => 4
  | .rla => 4
  | .rra => 4
  | .daa => 4
  | .cpl => 4
  | .scf => 4
  | .ccf => 4
  | .ldRR _ _ => 4
  | .halt => 4
  | .addAR _ => 4
  | .adcAR _ => 4
  | .subR _ => 4
  | .sbcAR _ => 4
  | .andR _ => 4
  | .xorR _ => 4
  | .orR _ => 4
  | .cpR _ => 4
  | .jpHl => 4
  | .di => 4
  | .ei => 4
  | .ldIndBcA => 8
  | .incRr _ => 8
  | .ldRD8 _ _ => 8
  | .addHlRr _ => 8
  | .ldAIndBc => 8
  | .decRr _ => 8
  | .ldIndDeA => 8
  | .ldAIndDe => 8
  | .jrCcE8 _ _ => 8
  | .ldIndHlIncA => 8
  | .ldAIndHlInc => 8
  | .ldIndHlDecA => 8
  | .ldAIndHlDec => 8
  | .ldRIndHl _ => 8
  | .ldIndHlR _ => 8
  | .addAIndHl => 8
  | .adcAIndHl => 8
  | .subIndHl => 8
  | .sbcAIndHl => 8
  | .andIndHl => 8
  | .xorIndHl => 8
  | .orIndHl => 8
  | .cpIndHl => 8
  | .retCc _ => 8
  | .addAD8 _ => 8
  | .adcAD8 _ => 8
  | .subD8 _ => 8
  | .sbcAD8 _ => 8
  | .ldIndCA => 8
  | .andD8 _ => 8
  | .xorD8 _ => 8
  | .ldAIndC => 8
  | .orD8 _ => 8
  | .ldSpHl => 8
  | .cpD8 _ => 8
  | .rlcR _ => 8
  | .rrcR _ => 8
  | .rlR _ => 8
  | .rrR _ => 8
  | .slaR _ => 8
  | .sraR _ => 8
  | .swapR _ => 8
  | .srlR _ => 8
  | .bitR _ _ => 8
  | .resR _ _ => 8
  | .setR _ _ => 8
  | .ldRrD16 _ _ => 12
  | .jrE8 _ => 12
  | .incIndHl => 12
  | .decIndHl => 12
  | .ldIndHlD8 _ => 12
  | .popRr _ => 12
  | .jpCcA16 _ _ => 12
  | .callCcA16 _ _ => 12
  | .ldhIndA8A _ => 12
  | .ldhAIndA8 _ => 12
  | .ldHlSpE8 _ => 12
  | .bitIndHl _ => 12
  | .jpA16 _ => 16
  | .pushRr _ => 16
  | .rstT _ => 16
  | .ret => 16
  | .reti => 16
  | .addSpE8 _ => 16
  | .ldIndA16A _ => 16
  | .ldAIndA16 _ => 16
  | .rlcIndHl => 16
  | .rrcIndHl => 16
  | .rlIndHl => 16
  | .rrIndHl => 16
  | .slaIndHl => 16
  | .sraIndHl => 16
  | .swapIndHl => 16
  | .srlIndHl => 16
  | .resIndHl _ => 16
  | .setIndHl _ => 16
  | .ldIndA16Sp _ => 20
  | .callA16 _ => 24
  | .prefixCb => 0
  | .illegalD3 => 0
  | .illegalDB => 0
  | .illegalDD => 0
  | .illegalE3 => 0
  | .illegalE4 => 0
  | .illegalEB => 0
  | .illegalEC => 0
  | .illegalED => 0
  | .illegalF4 => 0
  | .illegalFC => 0
  | .illegalFD => 0

/-- The instruction a form stands for, its operand bytes 0. -/
def instrOf : Form → Instr
  | .op i => i
  | .imm8 k => k 0
  | .imm16 k => k 0

/-- One of the two sequences of R328. -/
def dmgSequence (t : TableIx) : List Nat :=
  (List.range 256).map fun n =>
    match decodeOpcode t (BitVec.ofNat 8 n) with
    | some f => dmgCost (instrOf f)
    | none => 0

/-- `BASE_TIMING` with the DMG's costs (R328). -/
def dmgTiming : Timing := { t0 := dmgSequence .t0, t1 := dmgSequence .t1 }

end Sys2Proof.Machine
end

