-- ==== Sys2Proof/Tests/Slice0.lean ====
section
/-! SUPPORT. The model's own tests. Words are written out from the templates of 30_encoding.md R76 and R77; expected
results are those of 95_test_vectors.md, by its vector names. The witnesses at the end show that the hypotheses of each
statement of Certificates/Slice0/Obligations.lean can be met. -/

namespace Sys2Proof.Tests

open Sys2Proof Sys2Proof.Machine Sys2Proof.Spec

/-! ## Well-formedness (30_encoding.md R70, R80) -/

/-- Every register form refuses operand index 6, in every operand position. -/
theorem test_wf_register_operands : ([
  .incR .indHl, .decR .indHl, .ldRD8 .indHl 0#8, .ldRR .indHl .a,
  .ldRR .a .indHl, .ldRIndHl .indHl, .ldIndHlR .indHl, .addAR .indHl,
  .adcAR .indHl, .subR .indHl, .sbcAR .indHl, .andR .indHl,
  .xorR .indHl, .orR .indHl, .cpR .indHl, .rlcR .indHl,
  .rrcR .indHl, .rlR .indHl, .rrR .indHl, .slaR .indHl,
  .sraR .indHl, .swapR .indHl, .srlR .indHl, .bitR 2#3 .indHl,
  .resR 2#3 .indHl, .setR 2#3 .indHl] : List Instr).all (fun i => !WellFormed i) = true := by decide

/-- `PREFIX CB` is no instruction of the byte stream. -/
theorem test_wf_prefix_cb : WellFormed .prefixCb = false := by decide

/-- The neighbours of the ill-formed terms pass. -/
theorem test_wf_neighbours : ([.ldRR .b .a, .ldIndHlR .l, .ldRD8 .h 0#8, .incIndHl, .bitR 7#3 .e, .illegalFD] : List Instr).all
    WellFormed = true := by decide

/-! ## Decoding: every constructor from a word written out bit by bit (30_encoding.md R68 to R77) -/

/-- The byte lists of a list that do not decode, whole, to the instruction beside them. -/
def undecoded (l : List (List Byte × Instr)) : List (List Byte) :=
  (l.filter fun p => !decide (decode p.1 = .ok p.2 [])).map fun p => p.1

theorem test_decode_system : undecoded [
  ([0b00000000#8], .nop),
  ([0b00010000#8], .stop),
  ([0b01110110#8], .halt),
  ([0b11010011#8], .illegalD3),
  ([0b11011011#8], .illegalDB),
  ([0b11011101#8], .illegalDD),
  ([0b11100011#8], .illegalE3),
  ([0b11100100#8], .illegalE4),
  ([0b11101011#8], .illegalEB),
  ([0b11101100#8], .illegalEC),
  ([0b11101101#8], .illegalED),
  ([0b11110011#8], .di),
  ([0b11110100#8], .illegalF4),
  ([0b11111011#8], .ei),
  ([0b11111100#8], .illegalFC),
  ([0b11111101#8], .illegalFD)] = [] := by decide

theorem test_decode_load16_stack : undecoded [
  ([0b00110001#8, 0x34#8, 0x12#8], .ldRrD16 .sp 0x1234#16),
  ([0b00001000#8, 0x34#8, 0x12#8], .ldIndA16Sp 0x1234#16),
  ([0b11110001#8], .popRr .af),
  ([0b11100101#8], .pushRr .hl),
  ([0b11111000#8, 0x9C#8], .ldHlSpE8 0x9C#8),
  ([0b11111001#8], .ldSpHl)] = [] := by decide

theorem test_decode_load8_1 : undecoded [
  ([0b00000010#8], .ldIndBcA),
  ([0b00100110#8, 0x9C#8], .ldRD8 .h 0x9C#8),
  ([0b00001010#8], .ldAIndBc),
  ([0b00010010#8], .ldIndDeA),
  ([0b00011010#8], .ldAIndDe),
  ([0b00100010#8], .ldIndHlIncA),
  ([0b00101010#8], .ldAIndHlInc),
  ([0b00110010#8], .ldIndHlDecA),
  ([0b00110110#8, 0x9C#8], .ldIndHlD8 0x9C#8),
  ([0b00111010#8], .ldAIndHlDec),
  ([0b01101001#8], .ldRR .l .c),
  ([0b01010110#8], .ldRIndHl .d),
  ([0b01110101#8], .ldIndHlR .l),
  ([0b11100000#8, 0x9C#8], .ldhIndA8A 0x9C#8),
  ([0b11100010#8], .ldIndCA),
  ([0b11101010#8, 0x34#8, 0x12#8], .ldIndA16A 0x1234#16)] = [] := by decide

theorem test_decode_load8_2 : undecoded [
  ([0b11110000#8, 0x9C#8], .ldhAIndA8 0x9C#8),
  ([0b11110010#8], .ldAIndC),
  ([0b11111010#8, 0x34#8, 0x12#8], .ldAIndA16 0x1234#16)] = [] := by decide

theorem test_decode_alu16 : undecoded [
  ([0b00100011#8], .incRr .hl),
  ([0b00011001#8], .addHlRr .de),
  ([0b00001011#8], .decRr .bc),
  ([0b11101000#8, 0x9C#8], .addSpE8 0x9C#8)] = [] := by decide

theorem test_decode_alu8_1 : undecoded [
  ([0b00111100#8], .incR .a),
  ([0b00000101#8], .decR .b),
  ([0b00100111#8], .daa),
  ([0b00101111#8], .cpl),
  ([0b00110100#8], .incIndHl),
  ([0b00110101#8], .decIndHl),
  ([0b00110111#8], .scf),
  ([0b00111111#8], .ccf),
  ([0b10000111#8], .addAR .a),
  ([0b10000110#8], .addAIndHl),
  ([0b10001011#8], .adcAR .e),
  ([0b10001110#8], .adcAIndHl),
  ([0b10010000#8], .subR .b),
  ([0b10010110#8], .subIndHl),
  ([0b10011010#8], .sbcAR .d),
  ([0b10011110#8], .sbcAIndHl)] = [] := by decide

theorem test_decode_alu8_2 : undecoded [
  ([0b10100100#8], .andR .h),
  ([0b10100110#8], .andIndHl),
  ([0b10101001#8], .xorR .c),
  ([0b10101110#8], .xorIndHl),
  ([0b10110101#8], .orR .l),
  ([0b10110110#8], .orIndHl),
  ([0b10111111#8], .cpR .a),
  ([0b10111110#8], .cpIndHl),
  ([0b11000110#8, 0x9C#8], .addAD8 0x9C#8),
  ([0b11001110#8, 0x9C#8], .adcAD8 0x9C#8),
  ([0b11010110#8, 0x9C#8], .subD8 0x9C#8),
  ([0b11011110#8, 0x9C#8], .sbcAD8 0x9C#8),
  ([0b11100110#8, 0x9C#8], .andD8 0x9C#8),
  ([0b11101110#8, 0x9C#8], .xorD8 0x9C#8),
  ([0b11110110#8, 0x9C#8], .orD8 0x9C#8),
  ([0b11111110#8, 0x9C#8], .cpD8 0x9C#8)] = [] := by decide

theorem test_decode_rotate_a : undecoded [
  ([0b00000111#8], .rlca),
  ([0b00001111#8], .rrca),
  ([0b00010111#8], .rla),
  ([0b00011111#8], .rra)] = [] := by decide

theorem test_decode_control : undecoded [
  ([0b00011000#8, 0x9C#8], .jrE8 0x9C#8),
  ([0b00110000#8, 0x9C#8], .jrCcE8 .nc 0x9C#8),
  ([0b11001000#8], .retCc .z),
  ([0b11011010#8, 0x34#8, 0x12#8], .jpCcA16 .c 0x1234#16),
  ([0b11000011#8, 0x34#8, 0x12#8], .jpA16 0x1234#16),
  ([0b11000100#8, 0x34#8, 0x12#8], .callCcA16 .nz 0x1234#16),
  ([0b11101111#8], .rstT 5#3),
  ([0b11001001#8], .ret),
  ([0b11001101#8, 0x34#8, 0x12#8], .callA16 0x1234#16),
  ([0b11011001#8], .reti),
  ([0b11101001#8], .jpHl)] = [] := by decide

theorem test_decode_rotate_bit_1 : undecoded [
  ([0xCB#8, 0b00000011#8], .rlcR .e),
  ([0xCB#8, 0b00000110#8], .rlcIndHl),
  ([0xCB#8, 0b00001000#8], .rrcR .b),
  ([0xCB#8, 0b00001110#8], .rrcIndHl),
  ([0xCB#8, 0b00010010#8], .rlR .d),
  ([0xCB#8, 0b00010110#8], .rlIndHl),
  ([0xCB#8, 0b00011100#8], .rrR .h),
  ([0xCB#8, 0b00011110#8], .rrIndHl),
  ([0xCB#8, 0b00100001#8], .slaR .c),
  ([0xCB#8, 0b00100110#8], .slaIndHl),
  ([0xCB#8, 0b00101101#8], .sraR .l),
  ([0xCB#8, 0b00101110#8], .sraIndHl),
  ([0xCB#8, 0b00110111#8], .swapR .a),
  ([0xCB#8, 0b00110110#8], .swapIndHl),
  ([0xCB#8, 0b00111011#8], .srlR .e),
  ([0xCB#8, 0b00111110#8], .srlIndHl)] = [] := by decide

theorem test_decode_rotate_bit_2 : undecoded [
  ([0xCB#8, 0b01110000#8], .bitR 6#3 .b),
  ([0xCB#8, 0b01011110#8], .bitIndHl 3#3),
  ([0xCB#8, 0b10111010#8], .resR 7#3 .d),
  ([0xCB#8, 0b10001110#8], .resIndHl 1#3),
  ([0xCB#8, 0b11110100#8], .setR 6#3 .h),
  ([0xCB#8, 0b11011110#8], .setIndHl 3#3)] = [] := by decide

/-- 0xCB alone is not a whole instruction; in table 0 it is the `PREFIX CB` template (R80). -/
theorem test_decode_prefix : decode [0xCB#8] = .reject .truncated ∧
    (decodeOpcode .t0 0xCB#8).map instrOf = some .prefixCb := by decide

/-- Bytes that end inside an instruction are refused by name; what follows an instruction is left over. -/
theorem test_decode_truncated : decode [] = .reject .truncated ∧ decode [0x3E#8] = .reject .truncated ∧
    decode [0xC3#8, 0x50#8] = .reject .truncated ∧ decode [0x00#8, 0x76#8] = .ok .nop [0x76#8] := by decide

/-- The most specific template wins (95_test_vectors.md §2.5): 0x46, 0x70 and 0x76 are no `LD r,r'`. -/
theorem test_decode_specific : decode [0x41#8] = .ok (.ldRR .b .c) [] ∧ decode [0x46#8] = .ok (.ldRIndHl .b) [] ∧
    decode [0x70#8] = .ok (.ldIndHlR .b) [] ∧ decode [0x76#8] = .ok .halt [] := by decide

/-- A table word: the first byte is its low byte; a table 1 instruction has the prefix byte there. -/
theorem test_table_word : decodeTableWord 8 0x3E = some (.ldRD8 .a 0#8) ∧
    decodeTableWord 16 0x053E = some (.ldRD8 .a 5#8) ∧ decodeTableWord 16 0x37CB = some (.swapR .a) ∧
    decodeTableWord 24 0xC234EA = some (.ldIndA16A 0xC234#16) := by decide

/-- The word placed for the fetch is the one the next step runs, from reset. -/
theorem test_fetch_word : ∃ t, step (State.reset.withFetchWord 16 0x053E) = .next t ∧ t.rf.a = 5#8 ∧ t.rf.pc = 2#16 :=
  ⟨_, rfl, by decide, by decide +kernel⟩

/-! ## One step each: the vectors of 95_test_vectors.md §4 -/

/-- Whether one step from the start registers, with the code at PC on a plain RAM, ends with the registers, the extra
cycles, the fault and the bus calls given, and with no other byte changed. -/
def vec (code : List Byte) (r : RegFile) (m : List (Nat × Byte)) (r' : RegFile) (extra : Nat) (f : Option Byte)
    (calls : List BusCall) : Bool :=
  let mem := m.foldl (fun mm c => Memory.write mm c.1 c.2) (Memory.writeBytes [] r.pc code)
  match step { State.reset with rf := r, bus := ⟨mem, [], []⟩ } with
  | .next t =>
    t.rf == r' && t.extra == extra && t.countdown == extra && t.fault == f.map (Fault.unimplementedOpcode .t0)
      && t.bus.log.reverse == calls
      && t.bus.mem == calls.foldl (fun mm c => match c with
        | .write a v => Memory.write mm a.toNat v
        | .read _ _ => mm) mem
  | _ => false

/-- The names of the vectors that fail. -/
def failing (l : List (String × Bool)) : List String := (l.filter fun p => !p.2).map fun p => p.1

theorem test_vectors_load8_1 : failing [
  ("L1", vec [0x41#8] ⟨0x00#8, 0x00#8, 0x00#8, 0x5A#8, 0x00#8, 0x00#8, 0x00#8, 0x00#8, 0x0000#16, 0x0100#16⟩ [] ⟨0x00#8, 0x00#8, 0x5A#8, 0x5A#8, 0x00#8, 0x00#8, 0x00#8, 0x00#8, 0x0000#16, 0x0101#16⟩ 0 none [.read 0x0100#16 0x41#8]),
  ("L2", vec [0x7F#8] ⟨0x33#8, 0xF0#8, 0x00#8, 0x00#8, 0x00#8, 0x00#8, 0x00#8, 0x00#8, 0x0000#16, 0x0100#16⟩ [] ⟨0x33#8, 0xF0#8, 0x00#8, 0x00#8, 0x00#8, 0x00#8, 0x00#8, 0x00#8, 0x0000#16, 0x0101#16⟩ 0 none [.read 0x0100#16 0x7F#8]),
  ("L4", vec [0x2E#8, 0x7F#8] ⟨0x00#8, 0x00#8, 0x00#8, 0x00#8, 0x00#8, 0x00#8, 0x00#8, 0x00#8, 0x0000#16, 0x0100#16⟩ [] ⟨0x00#8, 0x00#8, 0x00#8, 0x00#8, 0x00#8, 0x00#8, 0x00#8, 0x7F#8, 0x0000#16, 0x0102#16⟩ 0 none [.read 0x0100#16 0x2E#8, .read 0x0101#16 0x7F#8]),
  ("L5", vec [0x06#8, 0xAB#8] ⟨0x00#8, 0x00#8, 0x00#8, 0x00#8, 0x00#8, 0x00#8, 0x00#8, 0x00#8, 0x0000#16, 0xFFFF#16⟩ [] ⟨0x00#8, 0x00#8, 0xAB#8, 0x00#8, 0x00#8, 0x00#8, 0x00#8, 0x00#8, 0x0000#16, 0x0001#16⟩ 0 none [.read 0xFFFF#16 0x06#8, .read 0x0000#16 0xAB#8]),
  ("L6", vec [0x66#8] ⟨0x00#8, 0x00#8, 0x00#8, 0x00#8, 0x00#8, 0x00#8, 0xC1#8, 0x23#8, 0x0000#16, 0x0100#16⟩ [(0xC123, 0x9A#8)] ⟨0x00#8, 0x00#8, 0x00#8, 0x00#8, 0x00#8, 0x00#8, 0x9A#8, 0x23#8, 0x0000#16, 0x0101#16⟩ 0 none [.read 0x0100#16 0x66#8, .read 0xC123#16 0x9A#8]),
  ("L7", vec [0x75#8] ⟨0x00#8, 0x00#8, 0x00#8, 0x00#8, 0x00#8, 0x00#8, 0xC0#8, 0x80#8, 0x0000#16, 0x0100#16⟩ [] ⟨0x00#8, 0x00#8, 0x00#8, 0x00#8, 0x00#8, 0x00#8, 0xC0#8, 0x80#8, 0x0000#16, 0x0101#16⟩ 0 none [.read 0x0100#16 0x75#8, .write 0xC080#16 0x80#8]),
  ("L8", vec [0x36#8, 0xFF#8] ⟨0x00#8, 0x00#8, 0x00#8, 0x00#8, 0x00#8, 0x00#8, 0xC0#8, 0x00#8, 0x0000#16, 0x0100#16⟩ [] ⟨0x00#8, 0x00#8, 0x00#8, 0x00#8, 0x00#8, 0x00#8, 0xC0#8, 0x00#8, 0x0000#16, 0x0102#16⟩ 0 none [.read 0x0100#16 0x36#8, .read 0x0101#16 0xFF#8, .write 0xC000#16 0xFF#8]),
  ("L9", vec [0x0A#8] ⟨0x00#8, 0x00#8, 0x12#8, 0x34#8, 0x00#8, 0x00#8, 0x00#8, 0x00#8, 0x0000#16, 0x0100#16⟩ [(0x1234, 0x77#8)] ⟨0x77#8, 0x00#8, 0x12#8, 0x34#8, 0x00#8, 0x00#8, 0x00#8, 0x00#8, 0x0000#16, 0x0101#16⟩ 0 none [.read 0x0100#16 0x0A#8, .read 0x1234#16 0x77#8]),
  ("L10", vec [0x1A#8] ⟨0x00#8, 0x00#8, 0x00#8, 0x00#8, 0xFF#8, 0xFF#8, 0x00#8, 0x00#8, 0x0000#16, 0x0100#16⟩ [(0xFFFF, 0x01#8)] ⟨0x01#8, 0x00#8, 0x00#8, 0x00#8, 0xFF#8, 0xFF#8, 0x00#8, 0x00#8, 0x0000#16, 0x0101#16⟩ 0 none [.read 0x0100#16 0x1A#8, .read 0xFFFF#16 0x01#8]),
  ("L11", vec [0x02#8] ⟨0xEE#8, 0x00#8, 0xC0#8, 0x01#8, 0x00#8, 0x00#8, 0x00#8, 0x00#8, 0x0000#16, 0x0100#16⟩ [] ⟨0xEE#8, 0x00#8, 0xC0#8, 0x01#8, 0x00#8, 0x00#8, 0x00#8, 0x00#8, 0x0000#16, 0x0101#16⟩ 0 none [.read 0x0100#16 0x02#8, .write 0xC001#16 0xEE#8])] = [] := by decide

theorem test_vectors_load8_2 : failing [
  ("L12", vec [0x12#8] ⟨0xEE#8, 0x00#8, 0x00#8, 0x00#8, 0x00#8, 0x00#8, 0x00#8, 0x00#8, 0x0000#16, 0x0100#16⟩ [] ⟨0xEE#8, 0x00#8, 0x00#8, 0x00#8, 0x00#8, 0x00#8, 0x00#8, 0x00#8, 0x0000#16, 0x0101#16⟩ 0 none [.read 0x0100#16 0x12#8, .write 0x0000#16 0xEE#8]),
  ("L13", vec [0x2A#8] ⟨0x00#8, 0x00#8, 0x00#8, 0x00#8, 0x00#8, 0x00#8, 0xFF#8, 0xFF#8, 0x0000#16, 0x0100#16⟩ [(0xFFFF, 0x42#8)] ⟨0x42#8, 0x00#8, 0x00#8, 0x00#8, 0x00#8, 0x00#8, 0x00#8, 0x00#8, 0x0000#16, 0x0101#16⟩ 0 none [.read 0x0100#16 0x2A#8, .read 0xFFFF#16 0x42#8]),
  ("L14", vec [0x3A#8] ⟨0x00#8, 0x00#8, 0x00#8, 0x00#8, 0x00#8, 0x00#8, 0x00#8, 0x00#8, 0x0000#16, 0x0100#16⟩ [(0x0000, 0x43#8)] ⟨0x43#8, 0x00#8, 0x00#8, 0x00#8, 0x00#8, 0x00#8, 0xFF#8, 0xFF#8, 0x0000#16, 0x0101#16⟩ 0 none [.read 0x0100#16 0x3A#8, .read 0x0000#16 0x43#8]),
  ("L15", vec [0x22#8] ⟨0x11#8, 0x00#8, 0x00#8, 0x00#8, 0x00#8, 0x00#8, 0xC0#8, 0xFF#8, 0x0000#16, 0x0100#16⟩ [] ⟨0x11#8, 0x00#8, 0x00#8, 0x00#8, 0x00#8, 0x00#8, 0xC1#8, 0x00#8, 0x0000#16, 0x0101#16⟩ 0 none [.read 0x0100#16 0x22#8, .write 0xC0FF#16 0x11#8]),
  ("L16", vec [0x32#8] ⟨0x22#8, 0x00#8, 0x00#8, 0x00#8, 0x00#8, 0x00#8, 0xC1#8, 0x00#8, 0x0000#16, 0x0100#16⟩ [] ⟨0x22#8, 0x00#8, 0x00#8, 0x00#8, 0x00#8, 0x00#8, 0xC0#8, 0xFF#8, 0x0000#16, 0x0101#16⟩ 0 none [.read 0x0100#16 0x32#8, .write 0xC100#16 0x22#8]),
  ("L17", vec [0xFA#8, 0x34#8, 0x12#8] ⟨0x00#8, 0x00#8, 0x00#8, 0x00#8, 0x00#8, 0x00#8, 0x00#8, 0x00#8, 0x0000#16, 0x0100#16⟩ [(0x1234, 0x99#8)] ⟨0x99#8, 0x00#8, 0x00#8, 0x00#8, 0x00#8, 0x00#8, 0x00#8, 0x00#8, 0x0000#16, 0x0103#16⟩ 0 none [.read 0x0100#16 0xFA#8, .read 0x0101#16 0x34#8, .read 0x0102#16 0x12#8, .read 0x1234#16 0x99#8]),
  ("L18", vec [0xEA#8, 0xFF#8, 0xFF#8] ⟨0x5C#8, 0x00#8, 0x00#8, 0x00#8, 0x00#8, 0x00#8, 0x00#8, 0x00#8, 0x0000#16, 0x0100#16⟩ [] ⟨0x5C#8, 0x00#8, 0x00#8, 0x00#8, 0x00#8, 0x00#8, 0x00#8, 0x00#8, 0x0000#16, 0x0103#16⟩ 0 none [.read 0x0100#16 0xEA#8, .read 0x0101#16 0xFF#8, .read 0x0102#16 0xFF#8, .write 0xFFFF#16 0x5C#8]),
  ("L19", vec [0xF0#8, 0xFF#8] ⟨0x00#8, 0x00#8, 0x00#8, 0x00#8, 0x00#8, 0x00#8, 0x00#8, 0x00#8, 0x0000#16, 0x0100#16⟩ [(0xFFFF, 0x1F#8)] ⟨0x1F#8, 0x00#8, 0x00#8, 0x00#8, 0x00#8, 0x00#8, 0x00#8, 0x00#8, 0x0000#16, 0x0102#16⟩ 0 none [.read 0x0100#16 0xF0#8, .read 0x0101#16 0xFF#8, .read 0xFFFF#16 0x1F#8]),
  ("L20", vec [0xE0#8, 0x80#8] ⟨0x3C#8, 0x00#8, 0x00#8, 0x00#8, 0x00#8, 0x00#8, 0x00#8, 0x00#8, 0x0000#16, 0x0100#16⟩ [] ⟨0x3C#8, 0x00#8, 0x00#8, 0x00#8, 0x00#8, 0x00#8, 0x00#8, 0x00#8, 0x0000#16, 0x0102#16⟩ 0 none [.read 0x0100#16 0xE0#8, .read 0x0101#16 0x80#8, .write 0xFF80#16 0x3C#8]),
  ("L21", vec [0xF2#8] ⟨0x00#8, 0x00#8, 0x00#8, 0x44#8, 0x00#8, 0x00#8, 0x00#8, 0x00#8, 0x0000#16, 0x0100#16⟩ [(0xFF44, 0x90#8)] ⟨0x90#8, 0x00#8, 0x00#8, 0x44#8, 0x00#8, 0x00#8, 0x00#8, 0x00#8, 0x0000#16, 0x0101#16⟩ 0 none [.read 0x0100#16 0xF2#8, .read 0xFF44#16 0x90#8])] = [] := by decide

theorem test_vectors_load8_3 : failing [
  ("L22", vec [0xE2#8] ⟨0x91#8, 0x00#8, 0x00#8, 0x40#8, 0x00#8, 0x00#8, 0x00#8, 0x00#8, 0x0000#16, 0x0100#16⟩ [] ⟨0x91#8, 0x00#8, 0x00#8, 0x40#8, 0x00#8, 0x00#8, 0x00#8, 0x00#8, 0x0000#16, 0x0101#16⟩ 0 none [.read 0x0100#16 0xE2#8, .write 0xFF40#16 0x91#8])] = [] := by decide

theorem test_vectors_load16_stack_1 : failing [
  ("W1", vec [0x01#8, 0x34#8, 0x12#8] ⟨0x00#8, 0x00#8, 0x00#8, 0x00#8, 0x00#8, 0x00#8, 0x00#8, 0x00#8, 0x0000#16, 0x0100#16⟩ [] ⟨0x00#8, 0x00#8, 0x12#8, 0x34#8, 0x00#8, 0x00#8, 0x00#8, 0x00#8, 0x0000#16, 0x0103#16⟩ 0 none [.read 0x0100#16 0x01#8, .read 0x0101#16 0x34#8, .read 0x0102#16 0x12#8]),
  ("W2", vec [0x31#8, 0xFE#8, 0xFF#8] ⟨0x00#8, 0x00#8, 0x00#8, 0x00#8, 0x00#8, 0x00#8, 0x00#8, 0x00#8, 0x0000#16, 0x0100#16⟩ [] ⟨0x00#8, 0x00#8, 0x00#8, 0x00#8, 0x00#8, 0x00#8, 0x00#8, 0x00#8, 0xFFFE#16, 0x0103#16⟩ 0 none [.read 0x0100#16 0x31#8, .read 0x0101#16 0xFE#8, .read 0x0102#16 0xFF#8]),
  ("W4", vec [0x08#8, 0x00#8, 0xC0#8] ⟨0x00#8, 0x00#8, 0x00#8, 0x00#8, 0x00#8, 0x00#8, 0x00#8, 0x00#8, 0xBEEF#16, 0x0100#16⟩ [] ⟨0x00#8, 0x00#8, 0x00#8, 0x00#8, 0x00#8, 0x00#8, 0x00#8, 0x00#8, 0xBEEF#16, 0x0103#16⟩ 0 none [.read 0x0100#16 0x08#8, .read 0x0101#16 0x00#8, .read 0x0102#16 0xC0#8, .write 0xC000#16 0xEF#8, .write 0xC001#16 0xBE#8]),
  ("W5", vec [0x08#8, 0xFF#8, 0xFF#8] ⟨0x00#8, 0x00#8, 0x00#8, 0x00#8, 0x00#8, 0x00#8, 0x00#8, 0x00#8, 0xBEEF#16, 0x0100#16⟩ [] ⟨0x00#8, 0x00#8, 0x00#8, 0x00#8, 0x00#8, 0x00#8, 0x00#8, 0x00#8, 0xBEEF#16, 0x0103#16⟩ 0 none [.read 0x0100#16 0x08#8, .read 0x0101#16 0xFF#8, .read 0x0102#16 0xFF#8, .write 0xFFFF#16 0xEF#8, .write 0x0000#16 0xBE#8]),
  ("W6", vec [0xF9#8] ⟨0x00#8, 0x00#8, 0x00#8, 0x00#8, 0x00#8, 0x00#8, 0xD0#8, 0x00#8, 0x1234#16, 0x0100#16⟩ [] ⟨0x00#8, 0x00#8, 0x00#8, 0x00#8, 0x00#8, 0x00#8, 0xD0#8, 0x00#8, 0xD000#16, 0x0101#16⟩ 0 none [.read 0x0100#16 0xF9#8]),
  ("W7", vec [0xF8#8, 0x08#8] ⟨0x00#8, 0xC0#8, 0x00#8, 0x00#8, 0x00#8, 0x00#8, 0x55#8, 0x55#8, 0xFFF8#16, 0x0100#16⟩ [] ⟨0x00#8, 0x30#8, 0x00#8, 0x00#8, 0x00#8, 0x00#8, 0x00#8, 0x00#8, 0xFFF8#16, 0x0102#16⟩ 0 none [.read 0x0100#16 0xF8#8, .read 0x0101#16 0x08#8]),
  ("W8", vec [0xF8#8, 0xFF#8] ⟨0x00#8, 0x00#8, 0x00#8, 0x00#8, 0x00#8, 0x00#8, 0x00#8, 0x00#8, 0x0000#16, 0x0100#16⟩ [] ⟨0x00#8, 0x00#8, 0x00#8, 0x00#8, 0x00#8, 0x00#8, 0xFF#8, 0xFF#8, 0x0000#16, 0x0102#16⟩ 0 none [.read 0x0100#16 0xF8#8, .read 0x0101#16 0xFF#8]),
  ("W11", vec [0xC5#8] ⟨0x00#8, 0x00#8, 0x12#8, 0x34#8, 0x00#8, 0x00#8, 0x00#8, 0x00#8, 0xD000#16, 0x0100#16⟩ [] ⟨0x00#8, 0x00#8, 0x12#8, 0x34#8, 0x00#8, 0x00#8, 0x00#8, 0x00#8, 0xCFFE#16, 0x0101#16⟩ 0 none [.read 0x0100#16 0xC5#8, .write 0xCFFF#16 0x12#8, .write 0xCFFE#16 0x34#8]),
  ("W12", vec [0xF5#8] ⟨0x9A#8, 0xB0#8, 0x00#8, 0x00#8, 0x00#8, 0x00#8, 0x00#8, 0x00#8, 0x0001#16, 0x0100#16⟩ [] ⟨0x9A#8, 0xB0#8, 0x00#8, 0x00#8, 0x00#8, 0x00#8, 0x00#8, 0x00#8, 0xFFFF#16, 0x0101#16⟩ 0 none [.read 0x0100#16 0xF5#8, .write 0x0000#16 0x9A#8, .write 0xFFFF#16 0xB0#8]),
  ("W13", vec [0xF1#8] ⟨0x00#8, 0x00#8, 0x00#8, 0x00#8, 0x00#8, 0x00#8, 0x00#8, 0x00#8, 0xCFFE#16, 0x0100#16⟩ [(0xCFFE, 0xFF#8), (0xCFFF, 0x12#8)] ⟨0x12#8, 0xF0#8, 0x00#8, 0x00#8, 0x00#8, 0x00#8, 0x00#8, 0x00#8, 0xD000#16, 0x0101#16⟩ 0 none [.read 0x0100#16 0xF1#8, .read 0xCFFE#16 0xFF#8, .read 0xCFFF#16 0x12#8])] = [] := by decide

theorem test_vectors_load16_stack_2 : failing [
  ("W14", vec [0xE1#8] ⟨0x00#8, 0x00#8, 0x00#8, 0x00#8, 0x00#8, 0x00#8, 0x00#8, 0x00#8, 0xFFFF#16, 0x0100#16⟩ [(0x0000, 0xAB#8), (0xFFFF, 0xCD#8)] ⟨0x00#8, 0x00#8, 0x00#8, 0x00#8, 0x00#8, 0x00#8, 0xAB#8, 0xCD#8, 0x0001#16, 0x0101#16⟩ 0 none [.read 0x0100#16 0xE1#8, .read 0xFFFF#16 0xCD#8, .read 0x0000#16 0xAB#8])] = [] := by decide

theorem test_vectors_alu8_1 : failing [
  ("A1", vec [0x80#8] ⟨0xFF#8, 0x00#8, 0x01#8, 0x00#8, 0x00#8, 0x00#8, 0x00#8, 0x00#8, 0x0000#16, 0x0100#16⟩ [] ⟨0x00#8, 0xB0#8, 0x01#8, 0x00#8, 0x00#8, 0x00#8, 0x00#8, 0x00#8, 0x0000#16, 0x0101#16⟩ 0 none [.read 0x0100#16 0x80#8]),
  ("A2", vec [0x87#8] ⟨0x88#8, 0x00#8, 0x00#8, 0x00#8, 0x00#8, 0x00#8, 0x00#8, 0x00#8, 0x0000#16, 0x0100#16⟩ [] ⟨0x10#8, 0x30#8, 0x00#8, 0x00#8, 0x00#8, 0x00#8, 0x00#8, 0x00#8, 0x0000#16, 0x0101#16⟩ 0 none [.read 0x0100#16 0x87#8]),
  ("A3", vec [0x86#8] ⟨0x0F#8, 0x00#8, 0x00#8, 0x00#8, 0x00#8, 0x00#8, 0xC0#8, 0x00#8, 0x0000#16, 0x0100#16⟩ [(0xC000, 0x01#8)] ⟨0x10#8, 0x20#8, 0x00#8, 0x00#8, 0x00#8, 0x00#8, 0xC0#8, 0x00#8, 0x0000#16, 0x0101#16⟩ 0 none [.read 0x0100#16 0x86#8, .read 0xC000#16 0x01#8]),
  ("A4", vec [0xC6#8, 0x03#8] ⟨0x05#8, 0xF0#8, 0x00#8, 0x00#8, 0x00#8, 0x00#8, 0x00#8, 0x00#8, 0x0000#16, 0x0100#16⟩ [] ⟨0x08#8, 0x00#8, 0x00#8, 0x00#8, 0x00#8, 0x00#8, 0x00#8, 0x00#8, 0x0000#16, 0x0102#16⟩ 0 none [.read 0x0100#16 0xC6#8, .read 0x0101#16 0x03#8]),
  ("A5", vec [0x89#8] ⟨0x00#8, 0x10#8, 0x00#8, 0xFF#8, 0x00#8, 0x00#8, 0x00#8, 0x00#8, 0x0000#16, 0x0100#16⟩ [] ⟨0x00#8, 0xB0#8, 0x00#8, 0xFF#8, 0x00#8, 0x00#8, 0x00#8, 0x00#8, 0x0000#16, 0x0101#16⟩ 0 none [.read 0x0100#16 0x89#8]),
  ("A6", vec [0x88#8] ⟨0xFF#8, 0x10#8, 0xFF#8, 0x00#8, 0x00#8, 0x00#8, 0x00#8, 0x00#8, 0x0000#16, 0x0100#16⟩ [] ⟨0xFF#8, 0x30#8, 0xFF#8, 0x00#8, 0x00#8, 0x00#8, 0x00#8, 0x00#8, 0x0000#16, 0x0101#16⟩ 0 none [.read 0x0100#16 0x88#8]),
  ("A7", vec [0x8E#8] ⟨0x0E#8, 0x10#8, 0x00#8, 0x00#8, 0x00#8, 0x00#8, 0xC0#8, 0x00#8, 0x0000#16, 0x0100#16⟩ [(0xC000, 0x01#8)] ⟨0x10#8, 0x20#8, 0x00#8, 0x00#8, 0x00#8, 0x00#8, 0xC0#8, 0x00#8, 0x0000#16, 0x0101#16⟩ 0 none [.read 0x0100#16 0x8E#8, .read 0xC000#16 0x01#8]),
  ("A8", vec [0xCE#8, 0x00#8] ⟨0xFF#8, 0x10#8, 0x00#8, 0x00#8, 0x00#8, 0x00#8, 0x00#8, 0x00#8, 0x0000#16, 0x0100#16⟩ [] ⟨0x00#8, 0xB0#8, 0x00#8, 0x00#8, 0x00#8, 0x00#8, 0x00#8, 0x00#8, 0x0000#16, 0x0102#16⟩ 0 none [.read 0x0100#16 0xCE#8, .read 0x0101#16 0x00#8]),
  ("A9", vec [0xCE#8, 0x0F#8] ⟨0x00#8, 0x00#8, 0x00#8, 0x00#8, 0x00#8, 0x00#8, 0x00#8, 0x00#8, 0x0000#16, 0x0100#16⟩ [] ⟨0x0F#8, 0x00#8, 0x00#8, 0x00#8, 0x00#8, 0x00#8, 0x00#8, 0x00#8, 0x0000#16, 0x0102#16⟩ 0 none [.read 0x0100#16 0xCE#8, .read 0x0101#16 0x0F#8]),
  ("A10", vec [0x90#8] ⟨0x10#8, 0x00#8, 0x01#8, 0x00#8, 0x00#8, 0x00#8, 0x00#8, 0x00#8, 0x0000#16, 0x0100#16⟩ [] ⟨0x0F#8, 0x60#8, 0x01#8, 0x00#8, 0x00#8, 0x00#8, 0x00#8, 0x00#8, 0x0000#16, 0x0101#16⟩ 0 none [.read 0x0100#16 0x90#8])] = [] := by decide

theorem test_vectors_alu8_2 : failing [
  ("A11", vec [0x97#8] ⟨0x5A#8, 0x10#8, 0x00#8, 0x00#8, 0x00#8, 0x00#8, 0x00#8, 0x00#8, 0x0000#16, 0x0100#16⟩ [] ⟨0x00#8, 0xC0#8, 0x00#8, 0x00#8, 0x00#8, 0x00#8, 0x00#8, 0x00#8, 0x0000#16, 0x0101#16⟩ 0 none [.read 0x0100#16 0x97#8]),
  ("A12", vec [0x96#8] ⟨0x00#8, 0x00#8, 0x00#8, 0x00#8, 0x00#8, 0x00#8, 0xC0#8, 0x00#8, 0x0000#16, 0x0100#16⟩ [(0xC000, 0x01#8)] ⟨0xFF#8, 0x70#8, 0x00#8, 0x00#8, 0x00#8, 0x00#8, 0xC0#8, 0x00#8, 0x0000#16, 0x0101#16⟩ 0 none [.read 0x0100#16 0x96#8, .read 0xC000#16 0x01#8]),
  ("A13", vec [0xD6#8, 0x80#8] ⟨0x7F#8, 0x00#8, 0x00#8, 0x00#8, 0x00#8, 0x00#8, 0x00#8, 0x00#8, 0x0000#16, 0x0100#16⟩ [] ⟨0xFF#8, 0x50#8, 0x00#8, 0x00#8, 0x00#8, 0x00#8, 0x00#8, 0x00#8, 0x0000#16, 0x0102#16⟩ 0 none [.read 0x0100#16 0xD6#8, .read 0x0101#16 0x80#8]),
  ("A14", vec [0x99#8] ⟨0x00#8, 0x10#8, 0x00#8, 0xFF#8, 0x00#8, 0x00#8, 0x00#8, 0x00#8, 0x0000#16, 0x0100#16⟩ [] ⟨0x00#8, 0xF0#8, 0x00#8, 0xFF#8, 0x00#8, 0x00#8, 0x00#8, 0x00#8, 0x0000#16, 0x0101#16⟩ 0 none [.read 0x0100#16 0x99#8]),
  ("A15", vec [0x98#8] ⟨0x10#8, 0x10#8, 0x0F#8, 0x00#8, 0x00#8, 0x00#8, 0x00#8, 0x00#8, 0x0000#16, 0x0100#16⟩ [] ⟨0x00#8, 0xE0#8, 0x0F#8, 0x00#8, 0x00#8, 0x00#8, 0x00#8, 0x00#8, 0x0000#16, 0x0101#16⟩ 0 none [.read 0x0100#16 0x98#8]),
  ("A16", vec [0x9E#8] ⟨0x01#8, 0x10#8, 0x00#8, 0x00#8, 0x00#8, 0x00#8, 0xC0#8, 0x00#8, 0x0000#16, 0x0100#16⟩ [(0xC000, 0x00#8)] ⟨0x00#8, 0xC0#8, 0x00#8, 0x00#8, 0x00#8, 0x00#8, 0xC0#8, 0x00#8, 0x0000#16, 0x0101#16⟩ 0 none [.read 0x0100#16 0x9E#8, .read 0xC000#16 0x00#8]),
  ("A17", vec [0xDE#8, 0x01#8] ⟨0x00#8, 0x00#8, 0x00#8, 0x00#8, 0x00#8, 0x00#8, 0x00#8, 0x00#8, 0x0000#16, 0x0100#16⟩ [] ⟨0xFF#8, 0x70#8, 0x00#8, 0x00#8, 0x00#8, 0x00#8, 0x00#8, 0x00#8, 0x0000#16, 0x0102#16⟩ 0 none [.read 0x0100#16 0xDE#8, .read 0x0101#16 0x01#8]),
  ("A18", vec [0xA0#8] ⟨0xF0#8, 0x50#8, 0x0F#8, 0x00#8, 0x00#8, 0x00#8, 0x00#8, 0x00#8, 0x0000#16, 0x0100#16⟩ [] ⟨0x00#8, 0xA0#8, 0x0F#8, 0x00#8, 0x00#8, 0x00#8, 0x00#8, 0x00#8, 0x0000#16, 0x0101#16⟩ 0 none [.read 0x0100#16 0xA0#8]),
  ("A19", vec [0xA6#8] ⟨0xFF#8, 0x00#8, 0x00#8, 0x00#8, 0x00#8, 0x00#8, 0xC0#8, 0x00#8, 0x0000#16, 0x0100#16⟩ [(0xC000, 0x81#8)] ⟨0x81#8, 0x20#8, 0x00#8, 0x00#8, 0x00#8, 0x00#8, 0xC0#8, 0x00#8, 0x0000#16, 0x0101#16⟩ 0 none [.read 0x0100#16 0xA6#8, .read 0xC000#16 0x81#8]),
  ("A20", vec [0xE6#8, 0x0F#8] ⟨0x3C#8, 0x00#8, 0x00#8, 0x00#8, 0x00#8, 0x00#8, 0x00#8, 0x00#8, 0x0000#16, 0x0100#16⟩ [] ⟨0x0C#8, 0x20#8, 0x00#8, 0x00#8, 0x00#8, 0x00#8, 0x00#8, 0x00#8, 0x0000#16, 0x0102#16⟩ 0 none [.read 0x0100#16 0xE6#8, .read 0x0101#16 0x0F#8])] = [] := by decide

theorem test_vectors_alu8_3 : failing [
  ("A21", vec [0xAF#8] ⟨0x77#8, 0xF0#8, 0x00#8, 0x00#8, 0x00#8, 0x00#8, 0x00#8, 0x00#8, 0x0000#16, 0x0100#16⟩ [] ⟨0x00#8, 0x80#8, 0x00#8, 0x00#8, 0x00#8, 0x00#8, 0x00#8, 0x00#8, 0x0000#16, 0x0101#16⟩ 0 none [.read 0x0100#16 0xAF#8]),
  ("A22", vec [0xAE#8] ⟨0xFF#8, 0x00#8, 0x00#8, 0x00#8, 0x00#8, 0x00#8, 0xC0#8, 0x00#8, 0x0000#16, 0x0100#16⟩ [(0xC000, 0x0F#8)] ⟨0xF0#8, 0x00#8, 0x00#8, 0x00#8, 0x00#8, 0x00#8, 0xC0#8, 0x00#8, 0x0000#16, 0x0101#16⟩ 0 none [.read 0x0100#16 0xAE#8, .read 0xC000#16 0x0F#8]),
  ("A23", vec [0xEE#8, 0xFF#8] ⟨0xFF#8, 0x00#8, 0x00#8, 0x00#8, 0x00#8, 0x00#8, 0x00#8, 0x00#8, 0x0000#16, 0x0100#16⟩ [] ⟨0x00#8, 0x80#8, 0x00#8, 0x00#8, 0x00#8, 0x00#8, 0x00#8, 0x00#8, 0x0000#16, 0x0102#16⟩ 0 none [.read 0x0100#16 0xEE#8, .read 0x0101#16 0xFF#8]),
  ("A24", vec [0xB1#8] ⟨0x00#8, 0x70#8, 0x00#8, 0x00#8, 0x00#8, 0x00#8, 0x00#8, 0x00#8, 0x0000#16, 0x0100#16⟩ [] ⟨0x00#8, 0x80#8, 0x00#8, 0x00#8, 0x00#8, 0x00#8, 0x00#8, 0x00#8, 0x0000#16, 0x0101#16⟩ 0 none [.read 0x0100#16 0xB1#8]),
  ("A25", vec [0xB6#8] ⟨0x01#8, 0x00#8, 0x00#8, 0x00#8, 0x00#8, 0x00#8, 0xC0#8, 0x00#8, 0x0000#16, 0x0100#16⟩ [(0xC000, 0x80#8)] ⟨0x81#8, 0x00#8, 0x00#8, 0x00#8, 0x00#8, 0x00#8, 0xC0#8, 0x00#8, 0x0000#16, 0x0101#16⟩ 0 none [.read 0x0100#16 0xB6#8, .read 0xC000#16 0x80#8]),
  ("A26", vec [0xF6#8, 0x00#8] ⟨0x42#8, 0x00#8, 0x00#8, 0x00#8, 0x00#8, 0x00#8, 0x00#8, 0x00#8, 0x0000#16, 0x0100#16⟩ [] ⟨0x42#8, 0x00#8, 0x00#8, 0x00#8, 0x00#8, 0x00#8, 0x00#8, 0x00#8, 0x0000#16, 0x0102#16⟩ 0 none [.read 0x0100#16 0xF6#8, .read 0x0101#16 0x00#8]),
  ("A27", vec [0xB8#8] ⟨0x42#8, 0x00#8, 0x42#8, 0x00#8, 0x00#8, 0x00#8, 0x00#8, 0x00#8, 0x0000#16, 0x0100#16⟩ [] ⟨0x42#8, 0xC0#8, 0x42#8, 0x00#8, 0x00#8, 0x00#8, 0x00#8, 0x00#8, 0x0000#16, 0x0101#16⟩ 0 none [.read 0x0100#16 0xB8#8]),
  ("A28", vec [0xBF#8] ⟨0x00#8, 0x00#8, 0x00#8, 0x00#8, 0x00#8, 0x00#8, 0x00#8, 0x00#8, 0x0000#16, 0x0100#16⟩ [] ⟨0x00#8, 0xC0#8, 0x00#8, 0x00#8, 0x00#8, 0x00#8, 0x00#8, 0x00#8, 0x0000#16, 0x0101#16⟩ 0 none [.read 0x0100#16 0xBF#8]),
  ("A29", vec [0xBE#8] ⟨0x10#8, 0x00#8, 0x00#8, 0x00#8, 0x00#8, 0x00#8, 0xC0#8, 0x00#8, 0x0000#16, 0x0100#16⟩ [(0xC000, 0x20#8)] ⟨0x10#8, 0x50#8, 0x00#8, 0x00#8, 0x00#8, 0x00#8, 0xC0#8, 0x00#8, 0x0000#16, 0x0101#16⟩ 0 none [.read 0x0100#16 0xBE#8, .read 0xC000#16 0x20#8]),
  ("A30", vec [0xFE#8, 0x01#8] ⟨0x10#8, 0x00#8, 0x00#8, 0x00#8, 0x00#8, 0x00#8, 0x00#8, 0x00#8, 0x0000#16, 0x0100#16⟩ [] ⟨0x10#8, 0x60#8, 0x00#8, 0x00#8, 0x00#8, 0x00#8, 0x00#8, 0x00#8, 0x0000#16, 0x0102#16⟩ 0 none [.read 0x0100#16 0xFE#8, .read 0x0101#16 0x01#8])] = [] := by decide

theorem test_vectors_alu8_4 : failing [
  ("A31", vec [0x3C#8] ⟨0xFF#8, 0x10#8, 0x00#8, 0x00#8, 0x00#8, 0x00#8, 0x00#8, 0x00#8, 0x0000#16, 0x0100#16⟩ [] ⟨0x00#8, 0xB0#8, 0x00#8, 0x00#8, 0x00#8, 0x00#8, 0x00#8, 0x00#8, 0x0000#16, 0x0101#16⟩ 0 none [.read 0x0100#16 0x3C#8]),
  ("A32", vec [0x04#8] ⟨0x00#8, 0x00#8, 0x0F#8, 0x00#8, 0x00#8, 0x00#8, 0x00#8, 0x00#8, 0x0000#16, 0x0100#16⟩ [] ⟨0x00#8, 0x20#8, 0x10#8, 0x00#8, 0x00#8, 0x00#8, 0x00#8, 0x00#8, 0x0000#16, 0x0101#16⟩ 0 none [.read 0x0100#16 0x04#8]),
  ("A34", vec [0x34#8] ⟨0x00#8, 0x00#8, 0x00#8, 0x00#8, 0x00#8, 0x00#8, 0xC0#8, 0x00#8, 0x0000#16, 0x0100#16⟩ [(0xC000, 0xFF#8)] ⟨0x00#8, 0xA0#8, 0x00#8, 0x00#8, 0x00#8, 0x00#8, 0xC0#8, 0x00#8, 0x0000#16, 0x0101#16⟩ 0 none [.read 0x0100#16 0x34#8, .read 0xC000#16 0xFF#8, .write 0xC000#16 0x00#8]),
  ("A35", vec [0x3D#8] ⟨0x01#8, 0x10#8, 0x00#8, 0x00#8, 0x00#8, 0x00#8, 0x00#8, 0x00#8, 0x0000#16, 0x0100#16⟩ [] ⟨0x00#8, 0xD0#8, 0x00#8, 0x00#8, 0x00#8, 0x00#8, 0x00#8, 0x00#8, 0x0000#16, 0x0101#16⟩ 0 none [.read 0x0100#16 0x3D#8]),
  ("A36", vec [0x05#8] ⟨0x00#8, 0x00#8, 0x00#8, 0x00#8, 0x00#8, 0x00#8, 0x00#8, 0x00#8, 0x0000#16, 0x0100#16⟩ [] ⟨0x00#8, 0x60#8, 0xFF#8, 0x00#8, 0x00#8, 0x00#8, 0x00#8, 0x00#8, 0x0000#16, 0x0101#16⟩ 0 none [.read 0x0100#16 0x05#8]),
  ("A38", vec [0x35#8] ⟨0x00#8, 0x00#8, 0x00#8, 0x00#8, 0x00#8, 0x00#8, 0xC0#8, 0x00#8, 0x0000#16, 0x0100#16⟩ [(0xC000, 0x00#8)] ⟨0x00#8, 0x60#8, 0x00#8, 0x00#8, 0x00#8, 0x00#8, 0xC0#8, 0x00#8, 0x0000#16, 0x0101#16⟩ 0 none [.read 0x0100#16 0x35#8, .read 0xC000#16 0x00#8, .write 0xC000#16 0xFF#8]),
  ("A39", vec [0x27#8] ⟨0x7D#8, 0x00#8, 0x00#8, 0x00#8, 0x00#8, 0x00#8, 0x00#8, 0x00#8, 0x0000#16, 0x0100#16⟩ [] ⟨0x83#8, 0x00#8, 0x00#8, 0x00#8, 0x00#8, 0x00#8, 0x00#8, 0x00#8, 0x0000#16, 0x0101#16⟩ 0 none [.read 0x0100#16 0x27#8]),
  ("A40", vec [0x27#8] ⟨0x9A#8, 0x00#8, 0x00#8, 0x00#8, 0x00#8, 0x00#8, 0x00#8, 0x00#8, 0x0000#16, 0x0100#16⟩ [] ⟨0x00#8, 0x90#8, 0x00#8, 0x00#8, 0x00#8, 0x00#8, 0x00#8, 0x00#8, 0x0000#16, 0x0101#16⟩ 0 none [.read 0x0100#16 0x27#8]),
  ("A46", vec [0x2F#8] ⟨0x35#8, 0x90#8, 0x00#8, 0x00#8, 0x00#8, 0x00#8, 0x00#8, 0x00#8, 0x0000#16, 0x0100#16⟩ [] ⟨0xCA#8, 0xF0#8, 0x00#8, 0x00#8, 0x00#8, 0x00#8, 0x00#8, 0x00#8, 0x0000#16, 0x0101#16⟩ 0 none [.read 0x0100#16 0x2F#8]),
  ("A47", vec [0x37#8] ⟨0x00#8, 0xE0#8, 0x00#8, 0x00#8, 0x00#8, 0x00#8, 0x00#8, 0x00#8, 0x0000#16, 0x0100#16⟩ [] ⟨0x00#8, 0x90#8, 0x00#8, 0x00#8, 0x00#8, 0x00#8, 0x00#8, 0x00#8, 0x0000#16, 0x0101#16⟩ 0 none [.read 0x0100#16 0x37#8])] = [] := by decide

theorem test_vectors_alu8_5 : failing [
  ("A48", vec [0x3F#8] ⟨0x00#8, 0xF0#8, 0x00#8, 0x00#8, 0x00#8, 0x00#8, 0x00#8, 0x00#8, 0x0000#16, 0x0100#16⟩ [] ⟨0x00#8, 0x80#8, 0x00#8, 0x00#8, 0x00#8, 0x00#8, 0x00#8, 0x00#8, 0x0000#16, 0x0101#16⟩ 0 none [.read 0x0100#16 0x3F#8]),
  ("A49", vec [0x3F#8] ⟨0x00#8, 0x00#8, 0x00#8, 0x00#8, 0x00#8, 0x00#8, 0x00#8, 0x00#8, 0x0000#16, 0x0100#16⟩ [] ⟨0x00#8, 0x10#8, 0x00#8, 0x00#8, 0x00#8, 0x00#8, 0x00#8, 0x00#8, 0x0000#16, 0x0101#16⟩ 0 none [.read 0x0100#16 0x3F#8])] = [] := by decide

theorem test_vectors_alu16_1 : failing [
  ("X1", vec [0x09#8] ⟨0x00#8, 0x80#8, 0x00#8, 0x01#8, 0x00#8, 0x00#8, 0x0F#8, 0xFF#8, 0x0000#16, 0x0100#16⟩ [] ⟨0x00#8, 0xA0#8, 0x00#8, 0x01#8, 0x00#8, 0x00#8, 0x10#8, 0x00#8, 0x0000#16, 0x0101#16⟩ 0 none [.read 0x0100#16 0x09#8]),
  ("X2", vec [0x19#8] ⟨0x00#8, 0x40#8, 0x00#8, 0x00#8, 0x00#8, 0x01#8, 0xFF#8, 0xFF#8, 0x0000#16, 0x0100#16⟩ [] ⟨0x00#8, 0x30#8, 0x00#8, 0x00#8, 0x00#8, 0x01#8, 0x00#8, 0x00#8, 0x0000#16, 0x0101#16⟩ 0 none [.read 0x0100#16 0x19#8]),
  ("X5", vec [0x03#8] ⟨0x00#8, 0xF0#8, 0xFF#8, 0xFF#8, 0x00#8, 0x00#8, 0x00#8, 0x00#8, 0x0000#16, 0x0100#16⟩ [] ⟨0x00#8, 0xF0#8, 0x00#8, 0x00#8, 0x00#8, 0x00#8, 0x00#8, 0x00#8, 0x0000#16, 0x0101#16⟩ 0 none [.read 0x0100#16 0x03#8]),
  ("X6", vec [0x23#8] ⟨0x00#8, 0x00#8, 0x00#8, 0x00#8, 0x00#8, 0x00#8, 0x00#8, 0xFF#8, 0x0000#16, 0x0100#16⟩ [] ⟨0x00#8, 0x00#8, 0x00#8, 0x00#8, 0x00#8, 0x00#8, 0x01#8, 0x00#8, 0x0000#16, 0x0101#16⟩ 0 none [.read 0x0100#16 0x23#8]),
  ("X8", vec [0x3B#8] ⟨0x00#8, 0x00#8, 0x00#8, 0x00#8, 0x00#8, 0x00#8, 0x00#8, 0x00#8, 0x0000#16, 0x0100#16⟩ [] ⟨0x00#8, 0x00#8, 0x00#8, 0x00#8, 0x00#8, 0x00#8, 0x00#8, 0x00#8, 0xFFFF#16, 0x0101#16⟩ 0 none [.read 0x0100#16 0x3B#8]),
  ("X9", vec [0x1B#8] ⟨0x00#8, 0x00#8, 0x00#8, 0x00#8, 0x01#8, 0x00#8, 0x00#8, 0x00#8, 0x0000#16, 0x0100#16⟩ [] ⟨0x00#8, 0x00#8, 0x00#8, 0x00#8, 0x00#8, 0xFF#8, 0x00#8, 0x00#8, 0x0000#16, 0x0101#16⟩ 0 none [.read 0x0100#16 0x1B#8]),
  ("X10", vec [0xE8#8, 0x01#8] ⟨0x00#8, 0xC0#8, 0x00#8, 0x00#8, 0x00#8, 0x00#8, 0x00#8, 0x00#8, 0xFFFF#16, 0x0100#16⟩ [] ⟨0x00#8, 0x30#8, 0x00#8, 0x00#8, 0x00#8, 0x00#8, 0x00#8, 0x00#8, 0x0000#16, 0x0102#16⟩ 0 none [.read 0x0100#16 0xE8#8, .read 0x0101#16 0x01#8]),
  ("X11", vec [0xE8#8, 0xFF#8] ⟨0x00#8, 0x00#8, 0x00#8, 0x00#8, 0x00#8, 0x00#8, 0x00#8, 0x00#8, 0x0000#16, 0x0100#16⟩ [] ⟨0x00#8, 0x00#8, 0x00#8, 0x00#8, 0x00#8, 0x00#8, 0x00#8, 0x00#8, 0xFFFF#16, 0x0102#16⟩ 0 none [.read 0x0100#16 0xE8#8, .read 0x0101#16 0xFF#8])] = [] := by decide

theorem test_vectors_rotate_bit_1 : failing [
  ("S1", vec [0x07#8] ⟨0x80#8, 0xE0#8, 0x00#8, 0x00#8, 0x00#8, 0x00#8, 0x00#8, 0x00#8, 0x0000#16, 0x0100#16⟩ [] ⟨0x01#8, 0x10#8, 0x00#8, 0x00#8, 0x00#8, 0x00#8, 0x00#8, 0x00#8, 0x0000#16, 0x0101#16⟩ 0 none [.read 0x0100#16 0x07#8]),
  ("S2", vec [0x07#8] ⟨0x00#8, 0x00#8, 0x00#8, 0x00#8, 0x00#8, 0x00#8, 0x00#8, 0x00#8, 0x0000#16, 0x0100#16⟩ [] ⟨0x00#8, 0x00#8, 0x00#8, 0x00#8, 0x00#8, 0x00#8, 0x00#8, 0x00#8, 0x0000#16, 0x0101#16⟩ 0 none [.read 0x0100#16 0x07#8]),
  ("S3", vec [0x0F#8] ⟨0x01#8, 0x00#8, 0x00#8, 0x00#8, 0x00#8, 0x00#8, 0x00#8, 0x00#8, 0x0000#16, 0x0100#16⟩ [] ⟨0x80#8, 0x10#8, 0x00#8, 0x00#8, 0x00#8, 0x00#8, 0x00#8, 0x00#8, 0x0000#16, 0x0101#16⟩ 0 none [.read 0x0100#16 0x0F#8]),
  ("S4", vec [0x17#8] ⟨0x80#8, 0x00#8, 0x00#8, 0x00#8, 0x00#8, 0x00#8, 0x00#8, 0x00#8, 0x0000#16, 0x0100#16⟩ [] ⟨0x00#8, 0x10#8, 0x00#8, 0x00#8, 0x00#8, 0x00#8, 0x00#8, 0x00#8, 0x0000#16, 0x0101#16⟩ 0 none [.read 0x0100#16 0x17#8]),
  ("S5", vec [0x17#8] ⟨0x00#8, 0x10#8, 0x00#8, 0x00#8, 0x00#8, 0x00#8, 0x00#8, 0x00#8, 0x0000#16, 0x0100#16⟩ [] ⟨0x01#8, 0x00#8, 0x00#8, 0x00#8, 0x00#8, 0x00#8, 0x00#8, 0x00#8, 0x0000#16, 0x0101#16⟩ 0 none [.read 0x0100#16 0x17#8]),
  ("S6", vec [0x1F#8] ⟨0x01#8, 0x10#8, 0x00#8, 0x00#8, 0x00#8, 0x00#8, 0x00#8, 0x00#8, 0x0000#16, 0x0100#16⟩ [] ⟨0x80#8, 0x10#8, 0x00#8, 0x00#8, 0x00#8, 0x00#8, 0x00#8, 0x00#8, 0x0000#16, 0x0101#16⟩ 0 none [.read 0x0100#16 0x1F#8]),
  ("S7", vec [0x1F#8] ⟨0x01#8, 0x00#8, 0x00#8, 0x00#8, 0x00#8, 0x00#8, 0x00#8, 0x00#8, 0x0000#16, 0x0100#16⟩ [] ⟨0x00#8, 0x10#8, 0x00#8, 0x00#8, 0x00#8, 0x00#8, 0x00#8, 0x00#8, 0x0000#16, 0x0101#16⟩ 0 none [.read 0x0100#16 0x1F#8]),
  ("S8", vec [0xCB#8, 0x00#8] ⟨0x00#8, 0x00#8, 0x80#8, 0x00#8, 0x00#8, 0x00#8, 0x00#8, 0x00#8, 0x0000#16, 0x0100#16⟩ [] ⟨0x00#8, 0x10#8, 0x01#8, 0x00#8, 0x00#8, 0x00#8, 0x00#8, 0x00#8, 0x0000#16, 0x0102#16⟩ 0 none [.read 0x0100#16 0xCB#8, .read 0x0101#16 0x00#8]),
  ("S9", vec [0xCB#8, 0x00#8] ⟨0x00#8, 0x10#8, 0x00#8, 0x00#8, 0x00#8, 0x00#8, 0x00#8, 0x00#8, 0x0000#16, 0x0100#16⟩ [] ⟨0x00#8, 0x80#8, 0x00#8, 0x00#8, 0x00#8, 0x00#8, 0x00#8, 0x00#8, 0x0000#16, 0x0102#16⟩ 0 none [.read 0x0100#16 0xCB#8, .read 0x0101#16 0x00#8]),
  ("S10", vec [0xCB#8, 0x06#8] ⟨0x00#8, 0x00#8, 0x00#8, 0x00#8, 0x00#8, 0x00#8, 0xC0#8, 0x00#8, 0x0000#16, 0x0100#16⟩ [(0xC000, 0x85#8)] ⟨0x00#8, 0x10#8, 0x00#8, 0x00#8, 0x00#8, 0x00#8, 0xC0#8, 0x00#8, 0x0000#16, 0x0102#16⟩ 0 none [.read 0x0100#16 0xCB#8, .read 0x0101#16 0x06#8, .read 0xC000#16 0x85#8, .write 0xC000#16 0x0B#8])] = [] := by decide

theorem test_vectors_rotate_bit_2 : failing [
  ("S11", vec [0xCB#8, 0x09#8] ⟨0x00#8, 0x00#8, 0x00#8, 0x01#8, 0x00#8, 0x00#8, 0x00#8, 0x00#8, 0x0000#16, 0x0100#16⟩ [] ⟨0x00#8, 0x10#8, 0x00#8, 0x80#8, 0x00#8, 0x00#8, 0x00#8, 0x00#8, 0x0000#16, 0x0102#16⟩ 0 none [.read 0x0100#16 0xCB#8, .read 0x0101#16 0x09#8]),
  ("S12", vec [0xCB#8, 0x0E#8] ⟨0x00#8, 0x00#8, 0x00#8, 0x00#8, 0x00#8, 0x00#8, 0xC0#8, 0x00#8, 0x0000#16, 0x0100#16⟩ [(0xC000, 0x00#8)] ⟨0x00#8, 0x80#8, 0x00#8, 0x00#8, 0x00#8, 0x00#8, 0xC0#8, 0x00#8, 0x0000#16, 0x0102#16⟩ 0 none [.read 0x0100#16 0xCB#8, .read 0x0101#16 0x0E#8, .read 0xC000#16 0x00#8, .write 0xC000#16 0x00#8]),
  ("S13", vec [0xCB#8, 0x11#8] ⟨0x00#8, 0x10#8, 0x00#8, 0x80#8, 0x00#8, 0x00#8, 0x00#8, 0x00#8, 0x0000#16, 0x0100#16⟩ [] ⟨0x00#8, 0x10#8, 0x00#8, 0x01#8, 0x00#8, 0x00#8, 0x00#8, 0x00#8, 0x0000#16, 0x0102#16⟩ 0 none [.read 0x0100#16 0xCB#8, .read 0x0101#16 0x11#8]),
  ("S14", vec [0xCB#8, 0x17#8] ⟨0x80#8, 0x00#8, 0x00#8, 0x00#8, 0x00#8, 0x00#8, 0x00#8, 0x00#8, 0x0000#16, 0x0100#16⟩ [] ⟨0x00#8, 0x90#8, 0x00#8, 0x00#8, 0x00#8, 0x00#8, 0x00#8, 0x00#8, 0x0000#16, 0x0102#16⟩ 0 none [.read 0x0100#16 0xCB#8, .read 0x0101#16 0x17#8]),
  ("S15", vec [0xCB#8, 0x16#8] ⟨0x00#8, 0x10#8, 0x00#8, 0x00#8, 0x00#8, 0x00#8, 0xC0#8, 0x00#8, 0x0000#16, 0x0100#16⟩ [(0xC000, 0x7F#8)] ⟨0x00#8, 0x00#8, 0x00#8, 0x00#8, 0x00#8, 0x00#8, 0xC0#8, 0x00#8, 0x0000#16, 0x0102#16⟩ 0 none [.read 0x0100#16 0xCB#8, .read 0x0101#16 0x16#8, .read 0xC000#16 0x7F#8, .write 0xC000#16 0xFF#8]),
  ("S16", vec [0xCB#8, 0x1A#8] ⟨0x00#8, 0x00#8, 0x00#8, 0x00#8, 0x01#8, 0x00#8, 0x00#8, 0x00#8, 0x0000#16, 0x0100#16⟩ [] ⟨0x00#8, 0x90#8, 0x00#8, 0x00#8, 0x00#8, 0x00#8, 0x00#8, 0x00#8, 0x0000#16, 0x0102#16⟩ 0 none [.read 0x0100#16 0xCB#8, .read 0x0101#16 0x1A#8]),
  ("S17", vec [0xCB#8, 0x1E#8] ⟨0x00#8, 0x10#8, 0x00#8, 0x00#8, 0x00#8, 0x00#8, 0xC0#8, 0x00#8, 0x0000#16, 0x0100#16⟩ [(0xC000, 0x02#8)] ⟨0x00#8, 0x00#8, 0x00#8, 0x00#8, 0x00#8, 0x00#8, 0xC0#8, 0x00#8, 0x0000#16, 0x0102#16⟩ 0 none [.read 0x0100#16 0xCB#8, .read 0x0101#16 0x1E#8, .read 0xC000#16 0x02#8, .write 0xC000#16 0x81#8]),
  ("S18", vec [0xCB#8, 0x23#8] ⟨0x00#8, 0x00#8, 0x00#8, 0x00#8, 0x00#8, 0x80#8, 0x00#8, 0x00#8, 0x0000#16, 0x0100#16⟩ [] ⟨0x00#8, 0x90#8, 0x00#8, 0x00#8, 0x00#8, 0x00#8, 0x00#8, 0x00#8, 0x0000#16, 0x0102#16⟩ 0 none [.read 0x0100#16 0xCB#8, .read 0x0101#16 0x23#8]),
  ("S19", vec [0xCB#8, 0x26#8] ⟨0x00#8, 0x00#8, 0x00#8, 0x00#8, 0x00#8, 0x00#8, 0xC0#8, 0x00#8, 0x0000#16, 0x0100#16⟩ [(0xC000, 0x41#8)] ⟨0x00#8, 0x00#8, 0x00#8, 0x00#8, 0x00#8, 0x00#8, 0xC0#8, 0x00#8, 0x0000#16, 0x0102#16⟩ 0 none [.read 0x0100#16 0xCB#8, .read 0x0101#16 0x26#8, .read 0xC000#16 0x41#8, .write 0xC000#16 0x82#8]),
  ("S20", vec [0xCB#8, 0x2C#8] ⟨0x00#8, 0x00#8, 0x00#8, 0x00#8, 0x00#8, 0x00#8, 0x81#8, 0x00#8, 0x0000#16, 0x0100#16⟩ [] ⟨0x00#8, 0x10#8, 0x00#8, 0x00#8, 0x00#8, 0x00#8, 0xC0#8, 0x00#8, 0x0000#16, 0x0102#16⟩ 0 none [.read 0x0100#16 0xCB#8, .read 0x0101#16 0x2C#8])] = [] := by decide

theorem test_vectors_rotate_bit_3 : failing [
  ("S21", vec [0xCB#8, 0x2F#8] ⟨0x01#8, 0x00#8, 0x00#8, 0x00#8, 0x00#8, 0x00#8, 0x00#8, 0x00#8, 0x0000#16, 0x0100#16⟩ [] ⟨0x00#8, 0x90#8, 0x00#8, 0x00#8, 0x00#8, 0x00#8, 0x00#8, 0x00#8, 0x0000#16, 0x0102#16⟩ 0 none [.read 0x0100#16 0xCB#8, .read 0x0101#16 0x2F#8]),
  ("S22", vec [0xCB#8, 0x2E#8] ⟨0x00#8, 0x00#8, 0x00#8, 0x00#8, 0x00#8, 0x00#8, 0xC0#8, 0x00#8, 0x0000#16, 0x0100#16⟩ [(0xC000, 0xFE#8)] ⟨0x00#8, 0x00#8, 0x00#8, 0x00#8, 0x00#8, 0x00#8, 0xC0#8, 0x00#8, 0x0000#16, 0x0102#16⟩ 0 none [.read 0x0100#16 0xCB#8, .read 0x0101#16 0x2E#8, .read 0xC000#16 0xFE#8, .write 0xC000#16 0xFF#8]),
  ("S23", vec [0xCB#8, 0x35#8] ⟨0x00#8, 0xF0#8, 0x00#8, 0x00#8, 0x00#8, 0x00#8, 0x00#8, 0xF0#8, 0x0000#16, 0x0100#16⟩ [] ⟨0x00#8, 0x00#8, 0x00#8, 0x00#8, 0x00#8, 0x00#8, 0x00#8, 0x0F#8, 0x0000#16, 0x0102#16⟩ 0 none [.read 0x0100#16 0xCB#8, .read 0x0101#16 0x35#8]),
  ("S24", vec [0xCB#8, 0x37#8] ⟨0x00#8, 0x00#8, 0x00#8, 0x00#8, 0x00#8, 0x00#8, 0x00#8, 0x00#8, 0x0000#16, 0x0100#16⟩ [] ⟨0x00#8, 0x80#8, 0x00#8, 0x00#8, 0x00#8, 0x00#8, 0x00#8, 0x00#8, 0x0000#16, 0x0102#16⟩ 0 none [.read 0x0100#16 0xCB#8, .read 0x0101#16 0x37#8]),
  ("S25", vec [0xCB#8, 0x36#8] ⟨0x00#8, 0x00#8, 0x00#8, 0x00#8, 0x00#8, 0x00#8, 0xC0#8, 0x00#8, 0x0000#16, 0x0100#16⟩ [(0xC000, 0x1E#8)] ⟨0x00#8, 0x00#8, 0x00#8, 0x00#8, 0x00#8, 0x00#8, 0xC0#8, 0x00#8, 0x0000#16, 0x0102#16⟩ 0 none [.read 0x0100#16 0xCB#8, .read 0x0101#16 0x36#8, .read 0xC000#16 0x1E#8, .write 0xC000#16 0xE1#8]),
  ("S26", vec [0xCB#8, 0x3F#8] ⟨0x01#8, 0x00#8, 0x00#8, 0x00#8, 0x00#8, 0x00#8, 0x00#8, 0x00#8, 0x0000#16, 0x0100#16⟩ [] ⟨0x00#8, 0x90#8, 0x00#8, 0x00#8, 0x00#8, 0x00#8, 0x00#8, 0x00#8, 0x0000#16, 0x0102#16⟩ 0 none [.read 0x0100#16 0xCB#8, .read 0x0101#16 0x3F#8]),
  ("S27", vec [0xCB#8, 0x3E#8] ⟨0x00#8, 0x00#8, 0x00#8, 0x00#8, 0x00#8, 0x00#8, 0xC0#8, 0x00#8, 0x0000#16, 0x0100#16⟩ [(0xC000, 0xFF#8)] ⟨0x00#8, 0x10#8, 0x00#8, 0x00#8, 0x00#8, 0x00#8, 0xC0#8, 0x00#8, 0x0000#16, 0x0102#16⟩ 0 none [.read 0x0100#16 0xCB#8, .read 0x0101#16 0x3E#8, .read 0xC000#16 0xFF#8, .write 0xC000#16 0x7F#8]),
  ("S28", vec [0xCB#8, 0x7C#8] ⟨0x00#8, 0x50#8, 0x00#8, 0x00#8, 0x00#8, 0x00#8, 0x80#8, 0x00#8, 0x0000#16, 0x0100#16⟩ [] ⟨0x00#8, 0x30#8, 0x00#8, 0x00#8, 0x00#8, 0x00#8, 0x80#8, 0x00#8, 0x0000#16, 0x0102#16⟩ 0 none [.read 0x0100#16 0xCB#8, .read 0x0101#16 0x7C#8]),
  ("S29", vec [0xCB#8, 0x47#8] ⟨0xFE#8, 0x10#8, 0x00#8, 0x00#8, 0x00#8, 0x00#8, 0x00#8, 0x00#8, 0x0000#16, 0x0100#16⟩ [] ⟨0xFE#8, 0xB0#8, 0x00#8, 0x00#8, 0x00#8, 0x00#8, 0x00#8, 0x00#8, 0x0000#16, 0x0102#16⟩ 0 none [.read 0x0100#16 0xCB#8, .read 0x0101#16 0x47#8]),
  ("S30", vec [0xCB#8, 0x5E#8] ⟨0x00#8, 0x00#8, 0x00#8, 0x00#8, 0x00#8, 0x00#8, 0xC0#8, 0x00#8, 0x0000#16, 0x0100#16⟩ [(0xC000, 0x08#8)] ⟨0x00#8, 0x20#8, 0x00#8, 0x00#8, 0x00#8, 0x00#8, 0xC0#8, 0x00#8, 0x0000#16, 0x0102#16⟩ 0 none [.read 0x0100#16 0xCB#8, .read 0x0101#16 0x5E#8, .read 0xC000#16 0x08#8])] = [] := by decide

theorem test_vectors_rotate_bit_4 : failing [
  ("S31", vec [0xCB#8, 0x7E#8] ⟨0x00#8, 0xF0#8, 0x00#8, 0x00#8, 0x00#8, 0x00#8, 0xC0#8, 0x00#8, 0x0000#16, 0x0100#16⟩ [(0xC000, 0x7F#8)] ⟨0x00#8, 0xB0#8, 0x00#8, 0x00#8, 0x00#8, 0x00#8, 0xC0#8, 0x00#8, 0x0000#16, 0x0102#16⟩ 0 none [.read 0x0100#16 0xCB#8, .read 0x0101#16 0x7E#8, .read 0xC000#16 0x7F#8]),
  ("S32", vec [0xCB#8, 0x87#8] ⟨0xFF#8, 0xF0#8, 0x00#8, 0x00#8, 0x00#8, 0x00#8, 0x00#8, 0x00#8, 0x0000#16, 0x0100#16⟩ [] ⟨0xFE#8, 0xF0#8, 0x00#8, 0x00#8, 0x00#8, 0x00#8, 0x00#8, 0x00#8, 0x0000#16, 0x0102#16⟩ 0 none [.read 0x0100#16 0xCB#8, .read 0x0101#16 0x87#8]),
  ("S33", vec [0xCB#8, 0xBE#8] ⟨0x00#8, 0x00#8, 0x00#8, 0x00#8, 0x00#8, 0x00#8, 0xC0#8, 0x00#8, 0x0000#16, 0x0100#16⟩ [(0xC000, 0xFF#8)] ⟨0x00#8, 0x00#8, 0x00#8, 0x00#8, 0x00#8, 0x00#8, 0xC0#8, 0x00#8, 0x0000#16, 0x0102#16⟩ 0 none [.read 0x0100#16 0xCB#8, .read 0x0101#16 0xBE#8, .read 0xC000#16 0xFF#8, .write 0xC000#16 0x7F#8]),
  ("S34", vec [0xCB#8, 0xD8#8] ⟨0x00#8, 0x00#8, 0x00#8, 0x00#8, 0x00#8, 0x00#8, 0x00#8, 0x00#8, 0x0000#16, 0x0100#16⟩ [] ⟨0x00#8, 0x00#8, 0x08#8, 0x00#8, 0x00#8, 0x00#8, 0x00#8, 0x00#8, 0x0000#16, 0x0102#16⟩ 0 none [.read 0x0100#16 0xCB#8, .read 0x0101#16 0xD8#8]),
  ("S35", vec [0xCB#8, 0xC6#8] ⟨0x00#8, 0xF0#8, 0x00#8, 0x00#8, 0x00#8, 0x00#8, 0xC0#8, 0x00#8, 0x0000#16, 0x0100#16⟩ [(0xC000, 0x00#8)] ⟨0x00#8, 0xF0#8, 0x00#8, 0x00#8, 0x00#8, 0x00#8, 0xC0#8, 0x00#8, 0x0000#16, 0x0102#16⟩ 0 none [.read 0x0100#16 0xCB#8, .read 0x0101#16 0xC6#8, .read 0xC000#16 0x00#8, .write 0xC000#16 0x01#8]),
  ("S36", vec [0xCB#8, 0xFF#8] ⟨0x80#8, 0x00#8, 0x00#8, 0x00#8, 0x00#8, 0x00#8, 0x00#8, 0x00#8, 0x0000#16, 0x0100#16⟩ [] ⟨0x80#8, 0x00#8, 0x00#8, 0x00#8, 0x00#8, 0x00#8, 0x00#8, 0x00#8, 0x0000#16, 0x0102#16⟩ 0 none [.read 0x0100#16 0xCB#8, .read 0x0101#16 0xFF#8])] = [] := by decide

theorem test_vectors_control_1 : failing [
  ("J1", vec [0xC3#8, 0x50#8, 0x01#8] ⟨0x00#8, 0x00#8, 0x00#8, 0x00#8, 0x00#8, 0x00#8, 0x00#8, 0x00#8, 0x0000#16, 0x0100#16⟩ [] ⟨0x00#8, 0x00#8, 0x00#8, 0x00#8, 0x00#8, 0x00#8, 0x00#8, 0x00#8, 0x0000#16, 0x0150#16⟩ 0 none [.read 0x0100#16 0xC3#8, .read 0x0101#16 0x50#8, .read 0x0102#16 0x01#8]),
  ("J2", vec [0xC2#8, 0x00#8, 0x80#8] ⟨0x00#8, 0x00#8, 0x00#8, 0x00#8, 0x00#8, 0x00#8, 0x00#8, 0x00#8, 0x0000#16, 0x0100#16⟩ [] ⟨0x00#8, 0x00#8, 0x00#8, 0x00#8, 0x00#8, 0x00#8, 0x00#8, 0x00#8, 0x0000#16, 0x8000#16⟩ 4 none [.read 0x0100#16 0xC2#8, .read 0x0101#16 0x00#8, .read 0x0102#16 0x80#8]),
  ("J3", vec [0xC2#8, 0x00#8, 0x80#8] ⟨0x00#8, 0x80#8, 0x00#8, 0x00#8, 0x00#8, 0x00#8, 0x00#8, 0x00#8, 0x0000#16, 0x0100#16⟩ [] ⟨0x00#8, 0x80#8, 0x00#8, 0x00#8, 0x00#8, 0x00#8, 0x00#8, 0x00#8, 0x0000#16, 0x0103#16⟩ 0 none [.read 0x0100#16 0xC2#8, .read 0x0101#16 0x00#8, .read 0x0102#16 0x80#8]),
  ("J5", vec [0xE9#8] ⟨0x00#8, 0x00#8, 0x00#8, 0x00#8, 0x00#8, 0x00#8, 0xAB#8, 0xCD#8, 0x0000#16, 0x0100#16⟩ [] ⟨0x00#8, 0x00#8, 0x00#8, 0x00#8, 0x00#8, 0x00#8, 0xAB#8, 0xCD#8, 0x0000#16, 0xABCD#16⟩ 0 none [.read 0x0100#16 0xE9#8]),
  ("J6", vec [0x18#8, 0x05#8] ⟨0x00#8, 0x00#8, 0x00#8, 0x00#8, 0x00#8, 0x00#8, 0x00#8, 0x00#8, 0x0000#16, 0x0100#16⟩ [] ⟨0x00#8, 0x00#8, 0x00#8, 0x00#8, 0x00#8, 0x00#8, 0x00#8, 0x00#8, 0x0000#16, 0x0107#16⟩ 0 none [.read 0x0100#16 0x18#8, .read 0x0101#16 0x05#8]),
  ("J7", vec [0x18#8, 0xFE#8] ⟨0x00#8, 0x00#8, 0x00#8, 0x00#8, 0x00#8, 0x00#8, 0x00#8, 0x00#8, 0x0000#16, 0x0100#16⟩ [] ⟨0x00#8, 0x00#8, 0x00#8, 0x00#8, 0x00#8, 0x00#8, 0x00#8, 0x00#8, 0x0000#16, 0x0100#16⟩ 0 none [.read 0x0100#16 0x18#8, .read 0x0101#16 0xFE#8]),
  ("J11", vec [0x28#8, 0x10#8] ⟨0x00#8, 0x80#8, 0x00#8, 0x00#8, 0x00#8, 0x00#8, 0x00#8, 0x00#8, 0x0000#16, 0x0100#16⟩ [] ⟨0x00#8, 0x80#8, 0x00#8, 0x00#8, 0x00#8, 0x00#8, 0x00#8, 0x00#8, 0x0000#16, 0x0112#16⟩ 4 none [.read 0x0100#16 0x28#8, .read 0x0101#16 0x10#8]),
  ("J12", vec [0x28#8, 0x10#8] ⟨0x00#8, 0x70#8, 0x00#8, 0x00#8, 0x00#8, 0x00#8, 0x00#8, 0x00#8, 0x0000#16, 0x0100#16⟩ [] ⟨0x00#8, 0x70#8, 0x00#8, 0x00#8, 0x00#8, 0x00#8, 0x00#8, 0x00#8, 0x0000#16, 0x0102#16⟩ 0 none [.read 0x0100#16 0x28#8, .read 0x0101#16 0x10#8]),
  ("J15", vec [0xCD#8, 0x00#8, 0x20#8] ⟨0x00#8, 0x00#8, 0x00#8, 0x00#8, 0x00#8, 0x00#8, 0x00#8, 0x00#8, 0xD000#16, 0x0100#16⟩ [] ⟨0x00#8, 0x00#8, 0x00#8, 0x00#8, 0x00#8, 0x00#8, 0x00#8, 0x00#8, 0xCFFE#16, 0x2000#16⟩ 0 none [.read 0x0100#16 0xCD#8, .read 0x0101#16 0x00#8, .read 0x0102#16 0x20#8, .write 0xCFFF#16 0x01#8, .write 0xCFFE#16 0x03#8]),
  ("J16", vec [0xCD#8, 0x34#8, 0x12#8] ⟨0x00#8, 0x00#8, 0x00#8, 0x00#8, 0x00#8, 0x00#8, 0x00#8, 0x00#8, 0x0001#16, 0xFFFE#16⟩ [] ⟨0x00#8, 0x00#8, 0x00#8, 0x00#8, 0x00#8, 0x00#8, 0x00#8, 0x00#8, 0xFFFF#16, 0x1234#16⟩ 0 none [.read 0xFFFE#16 0xCD#8, .read 0xFFFF#16 0x34#8, .read 0x0000#16 0x12#8, .write 0x0000#16 0x00#8, .write 0xFFFF#16 0x01#8])] = [] := by decide

theorem test_vectors_control_2 : failing [
  ("J17", vec [0xDC#8, 0x00#8, 0x20#8] ⟨0x00#8, 0x10#8, 0x00#8, 0x00#8, 0x00#8, 0x00#8, 0x00#8, 0x00#8, 0xD000#16, 0x0100#16⟩ [] ⟨0x00#8, 0x10#8, 0x00#8, 0x00#8, 0x00#8, 0x00#8, 0x00#8, 0x00#8, 0xCFFE#16, 0x2000#16⟩ 12 none [.read 0x0100#16 0xDC#8, .read 0x0101#16 0x00#8, .read 0x0102#16 0x20#8, .write 0xCFFF#16 0x01#8, .write 0xCFFE#16 0x03#8]),
  ("J18", vec [0xDC#8, 0x00#8, 0x20#8] ⟨0x00#8, 0x00#8, 0x00#8, 0x00#8, 0x00#8, 0x00#8, 0x00#8, 0x00#8, 0xD000#16, 0x0100#16⟩ [] ⟨0x00#8, 0x00#8, 0x00#8, 0x00#8, 0x00#8, 0x00#8, 0x00#8, 0x00#8, 0xD000#16, 0x0103#16⟩ 0 none [.read 0x0100#16 0xDC#8, .read 0x0101#16 0x00#8, .read 0x0102#16 0x20#8]),
  ("J20", vec [0xC9#8] ⟨0x00#8, 0x00#8, 0x00#8, 0x00#8, 0x00#8, 0x00#8, 0x00#8, 0x00#8, 0xCFFE#16, 0x0100#16⟩ [(0xCFFE, 0x03#8), (0xCFFF, 0x01#8)] ⟨0x00#8, 0x00#8, 0x00#8, 0x00#8, 0x00#8, 0x00#8, 0x00#8, 0x00#8, 0xD000#16, 0x0103#16⟩ 0 none [.read 0x0100#16 0xC9#8, .read 0xCFFE#16 0x03#8, .read 0xCFFF#16 0x01#8]),
  ("J21", vec [0xD0#8] ⟨0x00#8, 0x00#8, 0x00#8, 0x00#8, 0x00#8, 0x00#8, 0x00#8, 0x00#8, 0xCFFE#16, 0x0100#16⟩ [(0xCFFE, 0x03#8), (0xCFFF, 0x01#8)] ⟨0x00#8, 0x00#8, 0x00#8, 0x00#8, 0x00#8, 0x00#8, 0x00#8, 0x00#8, 0xD000#16, 0x0103#16⟩ 12 none [.read 0x0100#16 0xD0#8, .read 0xCFFE#16 0x03#8, .read 0xCFFF#16 0x01#8]),
  ("J22", vec [0xD0#8] ⟨0x00#8, 0x10#8, 0x00#8, 0x00#8, 0x00#8, 0x00#8, 0x00#8, 0x00#8, 0xCFFE#16, 0x0100#16⟩ [(0xCFFE, 0x03#8), (0xCFFF, 0x01#8)] ⟨0x00#8, 0x10#8, 0x00#8, 0x00#8, 0x00#8, 0x00#8, 0x00#8, 0x00#8, 0xCFFE#16, 0x0101#16⟩ 0 none [.read 0x0100#16 0xD0#8]),
  ("J24", vec [0xD9#8] ⟨0x00#8, 0x00#8, 0x00#8, 0x00#8, 0x00#8, 0x00#8, 0x00#8, 0x00#8, 0xCFFE#16, 0x0100#16⟩ [(0xCFFE, 0x03#8), (0xCFFF, 0x01#8)] ⟨0x00#8, 0x00#8, 0x00#8, 0x00#8, 0x00#8, 0x00#8, 0x00#8, 0x00#8, 0xCFFE#16, 0x0101#16⟩ 0 (some 0xD9#8) [.read 0x0100#16 0xD9#8]),
  ("J25", vec [0xFF#8] ⟨0x00#8, 0x00#8, 0x00#8, 0x00#8, 0x00#8, 0x00#8, 0x00#8, 0x00#8, 0xD000#16, 0x0100#16⟩ [] ⟨0x00#8, 0x00#8, 0x00#8, 0x00#8, 0x00#8, 0x00#8, 0x00#8, 0x00#8, 0xCFFE#16, 0x0038#16⟩ 0 none [.read 0x0100#16 0xFF#8, .write 0xCFFF#16 0x01#8, .write 0xCFFE#16 0x01#8]),
  ("J26", vec [0xC7#8] ⟨0x00#8, 0x00#8, 0x00#8, 0x00#8, 0x00#8, 0x00#8, 0x00#8, 0x00#8, 0x0000#16, 0x1234#16⟩ [] ⟨0x00#8, 0x00#8, 0x00#8, 0x00#8, 0x00#8, 0x00#8, 0x00#8, 0x00#8, 0xFFFE#16, 0x0000#16⟩ 0 none [.read 0x1234#16 0xC7#8, .write 0xFFFF#16 0x12#8, .write 0xFFFE#16 0x35#8])] = [] := by decide

theorem test_vectors_system_1 : failing [
  ("Y1", vec [0x00#8] ⟨0x12#8, 0xF0#8, 0x00#8, 0x00#8, 0x00#8, 0x00#8, 0x00#8, 0x00#8, 0x0000#16, 0x0100#16⟩ [] ⟨0x12#8, 0xF0#8, 0x00#8, 0x00#8, 0x00#8, 0x00#8, 0x00#8, 0x00#8, 0x0000#16, 0x0101#16⟩ 0 none [.read 0x0100#16 0x00#8]),
  ("Y2", vec [0x00#8] ⟨0x00#8, 0x00#8, 0x00#8, 0x00#8, 0x00#8, 0x00#8, 0x00#8, 0x00#8, 0x0000#16, 0xFFFF#16⟩ [] ⟨0x00#8, 0x00#8, 0x00#8, 0x00#8, 0x00#8, 0x00#8, 0x00#8, 0x00#8, 0x0000#16, 0x0000#16⟩ 0 none [.read 0xFFFF#16 0x00#8]),
  ("Y3", vec [0x10#8, 0x00#8] ⟨0x00#8, 0x00#8, 0x00#8, 0x00#8, 0x00#8, 0x00#8, 0x00#8, 0x00#8, 0x0000#16, 0x0100#16⟩ [] ⟨0x00#8, 0x00#8, 0x00#8, 0x00#8, 0x00#8, 0x00#8, 0x00#8, 0x00#8, 0x0000#16, 0x0101#16⟩ 0 (some 0x10#8) [.read 0x0100#16 0x10#8]),
  ("Y4", vec [0x76#8] ⟨0x00#8, 0x00#8, 0x00#8, 0x00#8, 0x00#8, 0x00#8, 0x00#8, 0x00#8, 0x0000#16, 0x0100#16⟩ [] ⟨0x00#8, 0x00#8, 0x00#8, 0x00#8, 0x00#8, 0x00#8, 0x00#8, 0x00#8, 0x0000#16, 0x0101#16⟩ 0 (some 0x76#8) [.read 0x0100#16 0x76#8]),
  ("Y5", vec [0xF3#8] ⟨0x00#8, 0x00#8, 0x00#8, 0x00#8, 0x00#8, 0x00#8, 0x00#8, 0x00#8, 0x0000#16, 0x0100#16⟩ [] ⟨0x00#8, 0x00#8, 0x00#8, 0x00#8, 0x00#8, 0x00#8, 0x00#8, 0x00#8, 0x0000#16, 0x0101#16⟩ 0 (some 0xF3#8) [.read 0x0100#16 0xF3#8]),
  ("Y6", vec [0xFB#8] ⟨0x00#8, 0x00#8, 0x00#8, 0x00#8, 0x00#8, 0x00#8, 0x00#8, 0x00#8, 0x0000#16, 0x0100#16⟩ [] ⟨0x00#8, 0x00#8, 0x00#8, 0x00#8, 0x00#8, 0x00#8, 0x00#8, 0x00#8, 0x0000#16, 0x0101#16⟩ 0 (some 0xFB#8) [.read 0x0100#16 0xFB#8]),
  ("Y7", vec [0xD3#8] ⟨0x00#8, 0x00#8, 0x00#8, 0x00#8, 0x00#8, 0x00#8, 0x00#8, 0x00#8, 0x0000#16, 0x0100#16⟩ [] ⟨0x00#8, 0x00#8, 0x00#8, 0x00#8, 0x00#8, 0x00#8, 0x00#8, 0x00#8, 0x0000#16, 0x0101#16⟩ 0 (some 0xD3#8) [.read 0x0100#16 0xD3#8]),
  ("Y8", vec [0xDB#8] ⟨0x00#8, 0x00#8, 0x00#8, 0x00#8, 0x00#8, 0x00#8, 0x00#8, 0x00#8, 0x0000#16, 0x0100#16⟩ [] ⟨0x00#8, 0x00#8, 0x00#8, 0x00#8, 0x00#8, 0x00#8, 0x00#8, 0x00#8, 0x0000#16, 0x0101#16⟩ 0 (some 0xDB#8) [.read 0x0100#16 0xDB#8]),
  ("Y9", vec [0xDD#8] ⟨0x00#8, 0x00#8, 0x00#8, 0x00#8, 0x00#8, 0x00#8, 0x00#8, 0x00#8, 0x0000#16, 0x0100#16⟩ [] ⟨0x00#8, 0x00#8, 0x00#8, 0x00#8, 0x00#8, 0x00#8, 0x00#8, 0x00#8, 0x0000#16, 0x0101#16⟩ 0 (some 0xDD#8) [.read 0x0100#16 0xDD#8]),
  ("Y10", vec [0xE3#8] ⟨0x00#8, 0x00#8, 0x00#8, 0x00#8, 0x00#8, 0x00#8, 0x00#8, 0x00#8, 0x0000#16, 0x0100#16⟩ [] ⟨0x00#8, 0x00#8, 0x00#8, 0x00#8, 0x00#8, 0x00#8, 0x00#8, 0x00#8, 0x0000#16, 0x0101#16⟩ 0 (some 0xE3#8) [.read 0x0100#16 0xE3#8])] = [] := by decide

theorem test_vectors_system_2 : failing [
  ("Y11", vec [0xE4#8] ⟨0x00#8, 0x00#8, 0x00#8, 0x00#8, 0x00#8, 0x00#8, 0x00#8, 0x00#8, 0x0000#16, 0x0100#16⟩ [] ⟨0x00#8, 0x00#8, 0x00#8, 0x00#8, 0x00#8, 0x00#8, 0x00#8, 0x00#8, 0x0000#16, 0x0101#16⟩ 0 (some 0xE4#8) [.read 0x0100#16 0xE4#8]),
  ("Y12", vec [0xEB#8] ⟨0x00#8, 0x00#8, 0x00#8, 0x00#8, 0x00#8, 0x00#8, 0x00#8, 0x00#8, 0x0000#16, 0x0100#16⟩ [] ⟨0x00#8, 0x00#8, 0x00#8, 0x00#8, 0x00#8, 0x00#8, 0x00#8, 0x00#8, 0x0000#16, 0x0101#16⟩ 0 (some 0xEB#8) [.read 0x0100#16 0xEB#8]),
  ("Y13", vec [0xEC#8] ⟨0x00#8, 0x00#8, 0x00#8, 0x00#8, 0x00#8, 0x00#8, 0x00#8, 0x00#8, 0x0000#16, 0x0100#16⟩ [] ⟨0x00#8, 0x00#8, 0x00#8, 0x00#8, 0x00#8, 0x00#8, 0x00#8, 0x00#8, 0x0000#16, 0x0101#16⟩ 0 (some 0xEC#8) [.read 0x0100#16 0xEC#8]),
  ("Y14", vec [0xED#8] ⟨0x00#8, 0x00#8, 0x00#8, 0x00#8, 0x00#8, 0x00#8, 0x00#8, 0x00#8, 0x0000#16, 0x0100#16⟩ [] ⟨0x00#8, 0x00#8, 0x00#8, 0x00#8, 0x00#8, 0x00#8, 0x00#8, 0x00#8, 0x0000#16, 0x0101#16⟩ 0 (some 0xED#8) [.read 0x0100#16 0xED#8]),
  ("Y15", vec [0xF4#8] ⟨0x00#8, 0x00#8, 0x00#8, 0x00#8, 0x00#8, 0x00#8, 0x00#8, 0x00#8, 0x0000#16, 0x0100#16⟩ [] ⟨0x00#8, 0x00#8, 0x00#8, 0x00#8, 0x00#8, 0x00#8, 0x00#8, 0x00#8, 0x0000#16, 0x0101#16⟩ 0 (some 0xF4#8) [.read 0x0100#16 0xF4#8]),
  ("Y16", vec [0xFC#8] ⟨0x00#8, 0x00#8, 0x00#8, 0x00#8, 0x00#8, 0x00#8, 0x00#8, 0x00#8, 0x0000#16, 0x0100#16⟩ [] ⟨0x00#8, 0x00#8, 0x00#8, 0x00#8, 0x00#8, 0x00#8, 0x00#8, 0x00#8, 0x0000#16, 0x0101#16⟩ 0 (some 0xFC#8) [.read 0x0100#16 0xFC#8]),
  ("Y17", vec [0xFD#8] ⟨0x00#8, 0x00#8, 0x00#8, 0x00#8, 0x00#8, 0x00#8, 0x00#8, 0x00#8, 0x0000#16, 0x0100#16⟩ [] ⟨0x00#8, 0x00#8, 0x00#8, 0x00#8, 0x00#8, 0x00#8, 0x00#8, 0x00#8, 0x0000#16, 0x0101#16⟩ 0 (some 0xFD#8) [.read 0x0100#16 0xFD#8])] = [] := by decide

/-- A direct `Execute` of 0xCB in table 0 faults with no bus call and no change of PC (48_system.md R295). -/
theorem test_execute_prefix_cb : execute .t0 0xCB#8 State.reset =
    .next { State.reset with fault := some (.unimplementedOpcode .t0 0xCB#8) } := rfl
/-! ## Templates (95_test_vectors.md §2.1 to §2.4) -/

/-- What a text parses to: the mask, the value and the fields (letter, most significant bit, width). -/
def parsed (text : String) : Option (Byte × Byte × List (Char × Nat × Nat)) :=
  match parseTemplate text with
  | .ok t => some (t.constMask, t.constVal, t.fields.map fun f => (f.name, f.mostSignificantBitIndex, f.bitWidth))
  | .error _ => none

theorem test_parse_fields : parsed "01dddsss" = some (0xC0#8, 0x40#8, [('d', 5, 3), ('s', 2, 3)]) ∧
    parsed "110cc010" = some (0xE7#8, 0xC2#8, [('c', 4, 2)]) ∧ parsed "11001011" = some (0xFF#8, 0xCB#8, []) :=
  ⟨rfl, rfl, rfl⟩

theorem test_parse_single : parsed "aaaaaaaa" = some (0x00#8, 0x00#8, [('a', 7, 8)]) ∧
    parsed "0a0b0c0d" = some (0xAA#8, 0x00#8, [('a', 6, 1), ('b', 4, 1), ('c', 2, 1), ('d', 0, 1)]) := ⟨rfl, rfl⟩

/-- The texts that are refused, each with its kind. -/
def refusedWith (k : ParseFailure) (texts : List String) : Bool :=
  texts.all fun text => match parseTemplate text with
    | .ok _ => false
    | .error e => decide (e = k)

theorem test_parse_malformed : refusedWith .malformed
    ["0000000", "000000000", "", "a0a0000", "00DDD110", "00xx-110", "0000002a", "aZa00000", "A0a0a000"] = true := by
  decide

theorem test_parse_repeated : refusedWith .repeatedLetter ["a0a00000", "aa0aa000", "aabaa000", "a0aZ0000"] = true := by
  decide

/-- The template of a text (an empty one where there is none). -/
def tpl (text : String) : Template :=
  match parseTemplate text with
  | .ok t => t
  | .error _ => ⟨0, 0, "", []⟩

theorem test_extract : (tpl "00ddd110").test 0x3E#8 = true ∧ (tpl "00ddd110").field 0x3E#8 'd' = 7 ∧
    (tpl "00ddd110").test 0x07#8 = false ∧ (tpl "01dddsss").field 0x41#8 's' = 1 ∧
    (tpl "110cc010").field 0xDA#8 'c' = 3 ∧ (tpl "001cc000").test 0x18#8 = false ∧
    (tpl "aaaaaaaa").field 0xA5#8 'a' = 165 := by decide

theorem test_super_pattern : superPattern (tpl "01dddsss") (tpl "01ddd110") = true ∧
    superPattern (tpl "01ddd110") (tpl "01dddsss") = false ∧ superPattern (tpl "01ddd110") (tpl "01110sss") = false ∧
    superPattern (tpl "00ddd110") (tpl "00rrr110") = false ∧ superPattern (tpl "0aaa0000") (tpl "0000bbb0") = false ∧
    superPattern (tpl "aaaaaaaa") (tpl "0bbbbbbb") = true ∧ superPattern (tpl "0aaaaaaa") (tpl "1bbbbbbb") = false := by
  decide

/-- The text, mask and match columns of a row are those of its parsed text. -/
def rowAgrees (r : Row) : Bool :=
  match parseTemplate r.text with
  | .ok t => decide (t.constMask = r.mask) && decide (t.constVal = r.val)
  | .error _ => false

theorem test_rows : table0.length = 93 ∧ table1.length = 22 ∧ (table0 ++ table1).all rowAgrees = true := by
  decide +kernel

/-! ## The Pattern Index (95_test_vectors.md §2.5, §2.7) -/

mutual

/-- A node as (depth, text) pairs, in order. -/
def shapeNode (d : Nat) : Node → List (Nat × String)
  | .mk t cs => (d, t.sourceText) :: shapeList (d + 1) cs

def shapeList (d : Nat) : List Node → List (Nat × String)
  | [] => []
  | n :: ns => shapeNode d n ++ shapeList d ns

end

/-- The index after some texts were added in order; `none` after a duplicate. -/
def indexed (texts : List String) : Option PatternIndex := (texts.map tpl).foldlM PatternIndex.add .empty

/-- The keys of the constant map, and the forest. -/
def indexShape (texts : List String) : Option (List Byte × List (Nat × String)) :=
  (indexed texts).map fun ix => (ix.constMap.map (·.1), shapeList 0 ix.roots)

theorem test_index_set_a :
    indexShape ["01dddsss", "01ddd110", "01110sss", "01110110"] =
      some ([0x76#8], [(0, "01dddsss"), (1, "01ddd110"), (1, "01110sss")]) ∧
    indexShape ["01110110", "01110sss", "01ddd110"] = some ([0x76#8], [(0, "01110sss"), (0, "01ddd110")]) ∧
    indexShape ["01110110", "01110sss", "01ddd110", "01dddsss"] =
      some ([0x76#8], [(0, "01dddsss"), (1, "01110sss"), (1, "01ddd110")]) := by decide

theorem test_index_set_b :
    indexShape ["000ccccc", "0001dddd", "0aaaaaaa"] =
      some ([], [(0, "0aaaaaaa"), (1, "000ccccc"), (2, "0001dddd")]) ∧
    indexShape ["000ccccc", "0001dddd", "0aaaaaaa", "00bbbbbb"] =
      some ([], [(0, "0aaaaaaa"), (1, "00bbbbbb"), (2, "000ccccc"), (3, "0001dddd")]) := by decide

/-- The texts a list of bytes decodes to in an index. -/
def decodes (texts : List String) (bs : List Byte) : Option (List (Option String)) :=
  (indexed texts).map fun ix => bs.map fun b => (ix.test b).map (·.sourceText)

theorem test_index_walk :
    decodes ["01110110", "01110sss", "01ddd110", "01dddsss"] [0x41#8, 0x46#8, 0x70#8, 0x76#8, 0x80#8] =
      some [some "01dddsss", some "01ddd110", some "01110sss", some "01110110", none] ∧
    decodes ["000ccccc", "0001dddd", "0aaaaaaa", "00bbbbbb"] [0x05#8, 0x15#8, 0x25#8, 0x45#8, 0x85#8] =
      some [some "000ccccc", some "0001dddd", some "00bbbbbb", some "0aaaaaaa", none] := by decide

theorem test_index_duplicates : indexShape ["00ddd110", "00ddd110"] = none ∧ indexShape ["00ddd110", "00rrr110"] = none ∧
    indexShape ["00ddd110", "00110110"] = some ([0x36#8], [(0, "00ddd110")]) ∧
    indexShape ["00ddd110", "00110110", "00110110"] = none := by decide

theorem test_index_ill_formed :
    decodes ["0aaa0000", "0000bbb0"] [0x00#8] = some [some "0aaa0000"] ∧
    decodes ["0000bbb0", "0aaa0000"] [0x00#8] = some [some "0000bbb0"] ∧
    wellFormedTable [tpl "0aaa0000", tpl "0000bbb0"] = false ∧
    wellFormedTable [tpl "01dddsss", tpl "01ddd110", tpl "01110sss", tpl "01110110"] = true := by decide +kernel

/-! ## Construction and the faults of other tables (95_test_vectors.md §2.6, §7) -/

/-- The fault and PC after a direct `Execute` in table 0 over some registrations; `none` where they are refused. -/
def executed (rs : List Registration) (op : Byte) : Option (Option Fault) :=
  match Interpreter.build rs with
  | .ok ip =>
    match ip.execute .t0 op State.reset with
    | .next t => some t.fault
    | _ => none
  | .error _ => none

/-- A handler that does nothing. -/
def idle : Handler := .exec fun _ s => ret 0 s

/-- The table of §2.6. -/
def grouped : List Registration := [(.t0, "10aaabbb", .group), (.t0, "10000sss", idle), (.t0, "10001110", idle)]

theorem test_group : executed grouped 0x87#8 = some none ∧ executed grouped 0x8E#8 = some none ∧
    executed grouped 0x88#8 = some (some (.unreachableDispatch .t0 0x88#8)) ∧
    executed grouped 0xBF#8 = some (some (.unreachableDispatch .t0 0xBF#8)) ∧
    executed grouped 0x40#8 = some (some (.instructionCoverage .t0 0x40#8)) := by decide +kernel

/-- The refusal of a construction. -/
def refusal (rs : List Registration) : Option Refusal :=
  match Interpreter.build rs with
  | .ok _ => none
  | .error e => some e

theorem test_refusals : refusal [(.t0, "0000000", idle)] = some (.templateParse .t0 "0000000") ∧
    refusal [(.t1, "a0a00000", idle)] = some (.duplicateOpcode .t1 "a0a00000") ∧
    refusal [(.t0, "00ddd110", idle), (.t0, "00rrr110", idle)] = some (.duplicateOpcode .t0 "00rrr110") ∧
    refusal [(.t0, "0aaa0000", idle), (.t0, "0000bbb0", idle)] = some (.ambiguousTemplateSet .t0 "0aaa0000") ∧
    refusal [(.t1, "0aaa0000", idle), (.t1, "0000bbb0", idle)] = some (.ambiguousTemplateSet .t1 "0aaa0000") ∧
    refusal [(.t0, "00xx-110", idle)] = some (.templateParse .t0 "00xx-110") ∧
    refusal grouped = none := by decide +kernel

/-- The canonical registrations of the 00 blocks of both tables, less some rows of one table. -/
def without (t : TableIx) (texts : List String) : List Registration :=
  (rows0Block00a.map (canonicalRegistration .t0) ++ rows1Block00.map (canonicalRegistration .t1)).filter fun r =>
    !(decide (r.1 = t) && texts.contains r.2.1)

/-- The fault, the PC and the number of bus calls after a step over some registrations (taken as well-formed), with code
at 0x0100. -/
def stepped (rs : List Registration) (code : List Byte) : Option (Option Fault × Word × Nat) :=
  match Interpreter.addAll rs .empty with
  | .ok ip =>
    let s := { State.reset with
      rf := { State.reset.rf with pc := 0x0100#16 }, bus := ⟨Memory.writeBytes [] 0x0100#16 code, [], []⟩ }
    match ip.step s with
    | .next t => some (t.fault, t.rf.pc, t.bus.log.length)
    | _ => none
  | .error _ => none

theorem test_uncovered_table0 :
    stepped (without .t0 ["00000000"]) [0x00#8] = some (some (.instructionCoverage .t0 0x00#8), 0x0101#16, 1) := by
  decide +kernel

theorem test_uncovered_table1 :
    stepped (without .t1 ["00110sss"]) [0xCB#8, 0x30#8] = some (some (.instructionCoverage .t1 0x30#8), 0x0102#16, 2) ∧
    stepped (without .t1 ["00110sss"]) [0xCB#8, 0x36#8] = some (none, 0x0102#16, 4) := by decide +kernel

theorem test_group_step : stepped grouped [0x88#8] = some (some (.unreachableDispatch .t0 0x88#8), 0x0101#16, 1) := by
  decide +kernel

/-- The canonical table 0 with `0aaa0000` is ill-formed at byte 0x20. -/
theorem test_ambiguous_canonical :
    chainAt ((table0.map fun r => tpl r.text) ++ [tpl "0aaa0000"]) 0x20#8 = false ∧
    chainAt (table0.map fun r => tpl r.text) 0x20#8 = true := by decide +kernel

/-! ## The tick loop (70_reset_and_hazards.md R329) -/

/-- `3E 05 C6 03` at 0x0100 with a base cost of 8 for both opcodes. -/
def ticking (pc : Word) (countdown : Nat) (a : Byte) : State :=
  { State.reset with
    rf := { State.reset.rf with pc := pc, a := a }
    countdown := countdown
    bus := ⟨Memory.writeBytes [] 0x0100#16 [0x3E#8, 0x05#8, 0xC6#8, 0x03#8], [], []⟩
    timing := dmgTiming }

/-- What a tick leaves: A, PC, the countdown. -/
def ticked (s : State) : Option (Byte × Word × Nat) :=
  match tick s with
  | .next t => some (t.rf.a, t.rf.pc, t.countdown)
  | _ => none

theorem test_tick : ticked (ticking 0x0100#16 0 0#8) = some (5#8, 0x0102#16, 8) ∧
    ticked (ticking 0x0102#16 8 5#8) = some (5#8, 0x0102#16, 7) ∧
    ticked (ticking 0x0102#16 0 5#8) = some (8#8, 0x0104#16, 8) := by decide

/-- The DMG's base costs (70_reset_and_hazards.md R328), a few of them. -/
theorem test_dmg_timing : Timing.base dmgTiming .t0 0xCD#8 = 24 ∧ Timing.base dmgTiming .t0 0x20#8 = 8 ∧
    Timing.base dmgTiming .t0 0xE8#8 = 16 ∧ Timing.base dmgTiming .t1 0x46#8 = 12 ∧ Timing.base dmgTiming .t1 0x30#8 = 8 := by
  decide

/-- The bus answers its script first, then its content (20_memory.md R36). -/
theorem test_bus_script :
    (Bus.answer ⟨[(5, 7#8)], [some 9#8], []⟩ 5#16, Bus.answer ⟨[(5, 7#8)], [none, some 9#8], []⟩ 5#16,
      Bus.answer ⟨[(5, 7#8)], [], []⟩ 6#16) = (9#8, 7#8, 0#8) := by decide

/-! ## Assembler syntax (30_encoding.md R82) -/

/-- The texts of the instructions in a byte list, at most `n` of them. -/
def listing : Nat → List Byte → List String
  | 0, _ => []
  | n + 1, bs => match decode bs with
    | .ok i rest => asm i :: listing n rest
    | .reject _ => []

/-- DGB's own sample, and the lines of the programs P1, P4 and P5 of 95_test_vectors.md §6. -/
theorem test_asm : listing 3 [0x3E#8, 0x05#8, 0xC6#8, 0x03#8] = ["LD A,5", "ADD A,3"] ∧
    listing 3 [0x20#8, 0xFC#8, 0xEA#8, 0x00#8, 0xC0#8, 0x18#8, 0xFE#8] = ["JR NZ,-4", "LD (0xC000),A", "JR -2"] ∧
    listing 3 [0x31#8, 0x00#8, 0xD0#8, 0xC5#8, 0xCB#8, 0x32#8] = ["LD SP,0xD000", "PUSH BC", "SWAP D"] ∧
    asm (.rstT 7#3) = "RST 38H" ∧ asm (.ldHlSpE8 2#8) = "LD HL,SP+2" ∧ asm (.bitIndHl 7#3) = "BIT 7,(HL)" := by
  decide

/-- The label of `JR NZ,-4` at 0x0105 in P1 is 0x0103. -/
theorem test_label : labelDisplacement 0x0105#16 0x0103#16 = 0xFC#8 := by decide

/-! ## Witnesses: the hypotheses of each statement can be met, clause by clause -/

/-- A state from reset with registers, PC and some code there. -/
def start (r : RegFile) (code : List Byte) : State :=
  { State.reset with rf := r, bus := ⟨Memory.writeBytes [] r.pc code, [], []⟩ }

/-- Some registers: F all set, SP and PC at the top of memory, HL at 0xC000. -/
def someRegs : RegFile :=
  ⟨0x99#8, 0xF0#8, 0x01#8, 0x02#8, 0x03#8, 0x04#8, 0xC0#8, 0x00#8, 0xFFFF#16, 0xFFFE#16⟩

/-- Whether a result is a next state. -/
def answers : Result → Bool
  | .next _ => true
  | _ => false

/-- LoadRegister, LoadFromBus, StoreToBus, AddToAccumulator, AddWithCarry, SubtractFromAccumulator, SubtractWithBorrow,
LogicOnAccumulator, CompareWithAccumulator, IncrementDecrement, RotateResults, ShiftsAndSwap, BitTest, BitResetSet: an
operand that is not `(HL)`, on both sides of index 6. -/
theorem witness_register_operands : R8.l ≠ .indHl ∧ R8.a ≠ .indHl ∧ R8.b ≠ .indHl := by decide

/-- JumpTargets, CallPushesReturnAddress, ReturnReadsStack: each condition both ways. -/
theorem witness_conditions : ([.nz, .nc] : List Cond).all (fun c => holds State.reset.rf c && !holds someRegs c) = true ∧
    ([.z, .c] : List Cond).all (fun c => !holds State.reset.rf c && holds someRegs c) = true := by decide

theorem witness_PopUndoesPush : PlainRam (start someRegs []) ∧ someRegs.f &&& 0x0F#8 = 0#8 ∧
    (∃ t u, exec (.pushRr .af) (start someRegs []) = .next t ∧ exec (.popRr .af) t = .next u) ∧
    ∃ t u, exec (.callA16 0x1234#16) (start someRegs []) = .next t ∧ exec .ret t = .next u :=
  ⟨⟨rfl, rfl⟩, rfl, ⟨_, _, rfl, rfl⟩, ⟨_, _, rfl, rfl⟩⟩

/-- 99 + 99 + 1 and 99 - 99 - 1: the ends of both ranges, with the carry in. -/
theorem witness_DecimalArithmetic : (99 < 100) ∧ (start someRegs []).rf.a = bcd 99 ∧
    (∃ t u, exec (.adcAD8 (bcd 99)) (start someRegs []) = .next t ∧ exec .daa t = .next u ∧ u.rf.a = bcd 99 ∧ cOf u.rf = true) ∧
    ∃ t u, exec (.sbcAD8 (bcd 99)) (start someRegs []) = .next t ∧ exec .daa t = .next u ∧ u.rf.a = bcd 99 ∧ cOf u.rf = true :=
  ⟨by decide, by decide, ⟨_, _, rfl, rfl, by decide, by decide⟩, ⟨_, _, rfl, rfl, by decide, by decide⟩⟩

/-- Both clauses: the byte at PC is one of the sixteen, and a step that latches a fault. -/
theorem witness_StepFaults : (start someRegs [0xFD#8]).fault = none ∧
    (start someRegs [0xFD#8]).bus.answer someRegs.pc ∈ faultingOpcodes ∧
    ∃ t, step (start someRegs [0xFD#8]) = .next t ∧ t.fault ≠ none := ⟨rfl, by decide, _, rfl, nofun⟩

/-- The three clauses: a register, SP and PC that an instruction does not write. -/
theorem witness_FrameRegisters : (∃ t, exec (.popRr .bc) (start someRegs []) = .next t) ∧
    Id8.a ≠ .f ∧ Id8.a ∉ destinations (.popRr .bc) ∧
    (∃ t, exec (.jpA16 0#16) (start someRegs []) = .next t) ∧ writesSp (.jpA16 0#16) = false ∧
    transfers (.popRr .bc) = false := ⟨⟨_, rfl⟩, by decide, by decide, ⟨_, rfl⟩, rfl, rfl⟩

/-- The five clauses: Z with `SCF`, N with `DAA`, H with `LD`, C with `INC`, all of F with `LD`. -/
theorem witness_FrameFlags : (∃ t, exec .scf (start someRegs []) = .next t) ∧ (flagsWritten .scf).1 = false ∧
    (∃ t, exec .daa (start someRegs []) = .next t) ∧ (flagsWritten .daa).2.1 = false ∧
    (∃ t, exec (.ldRR .a .b) (start someRegs []) = .next t) ∧ (flagsWritten (.ldRR .a .b)).2.2.1 = false ∧
    (∃ t, exec (.incR .a) (start someRegs []) = .next t) ∧ (flagsWritten (.incR .a)).2.2.2 = false ∧
    flagsWritten (.ldRR .a .b) = (false, false, false, false) :=
  ⟨⟨_, rfl⟩, rfl, ⟨_, rfl⟩, rfl, ⟨_, rfl⟩, rfl, ⟨_, rfl⟩, rfl, rfl⟩

/-- A store across the top of memory: its two bytes and the bytes beside them. -/
theorem witness_FrameMemory : answers (exec (.ldIndA16Sp 0xFFFF#16) (start someRegs [])) = true ∧
    stores (.ldIndA16Sp 0xFFFF#16) someRegs = [0xFFFF#16, 0x0000#16] ∧
    ([0xFFFF#16, 0x0000#16] : List Word).all (fun w => w.toNat != 1 && w.toNat != 0xFFFE) = true :=
  ⟨rfl, rfl, by decide⟩

/-- FrameEngine: a conditional form taken, which does not fault, and one that does. -/
theorem witness_FrameEngine : answers (exec (.retCc .z) (start someRegs [])) = true ∧ stubbed (.retCc .z) = false ∧
    extraCycles (.retCc .z) someRegs = 12 ∧ answers (exec .halt (start someRegs [])) = true ∧ stubbed .halt = true := by
  decide

/-- A read and a write at one address. -/
theorem witness_BusAccesses : (∃ t, exec (.resIndHl 7#3) (start someRegs []) = .next t) ∧
    accesses (.resIndHl 7#3) someRegs = [(false, 0xC000#16), (true, 0xC000#16)] := ⟨⟨_, rfl⟩, rfl⟩

/-- Two register files that differ in N and H. -/
theorem witness_OnlyDaaAndPushReadNH : AlikeButNH someRegs { someRegs with f := 0x90#8 } ∧
    nOf { someRegs with f := 0x90#8 } ≠ nOf someRegs ∧ (.adcAR .b : Instr) ≠ .daa ∧ (.adcAR .b : Instr) ≠ .pushRr .af ∧
    (∃ t, exec (.adcAR .b) (start someRegs []) = .next t) ∧
    ∃ u, exec (.adcAR .b) { start someRegs [] with rf := { someRegs with f := 0x90#8 } } = .next u :=
  ⟨⟨rfl, rfl, rfl⟩, by decide, by decide, by decide, ⟨_, rfl⟩, ⟨_, rfl⟩⟩

/-- Instructions of one, two and three bytes; the last two lie across the top of memory. -/
theorem witness_StepRunsDecoded : (start someRegs []).fault = none ∧ (start someRegs []).bus.replies = [] ∧
    decode (coming 1 (start someRegs [0xC9#8])) = .ok .ret [] ∧
    decode (coming 2 (start someRegs [0xCB#8, 0x37#8])) = .ok (.swapR .a) [] ∧
    decode (coming 3 (start someRegs [0xC3#8, 0x34#8, 0x12#8])) = .ok (.jpA16 0x1234#16) [] :=
  ⟨rfl, rfl, by decide, by decide +kernel, by decide +kernel⟩

/-- Both clauses: the byte at PC is the prefix byte, and it is the byte beside it. -/
theorem witness_PrefixSelectsTable : (start someRegs [0xCB#8]).bus.answer someRegs.pc = 0xCB#8 ∧
    (start someRegs [0xCC#8]).bus.answer someRegs.pc ≠ 0xCB#8 ∧ (start someRegs [0xCB#8]).fault = none := by decide

/-- A three-byte instruction at the top of memory: PC wraps. -/
theorem witness_PcPassesInstruction :
    decode (coming 3 (start someRegs [0x31#8, 0x34#8, 0x12#8])) = .ok (.ldRrD16 .sp 0x1234#16) [] ∧
    transfers (.ldRrD16 .sp 0x1234#16) = false ∧ someRegs.pc + BitVec.ofNat 16 3 = 1#16 ∧
    (start someRegs [0x31#8, 0x34#8, 0x12#8]).fault = none := ⟨by decide, rfl, rfl, rfl⟩

/-- The three branches: latched; an active countdown, at 1; countdown 0. -/
theorem witness_TickBranches :
    ({ State.reset with fault := some (.unimplementedOpcode .t0 0x76#8) } : State).fault ≠ none ∧
    State.reset.fault = none ∧ ({ State.reset with countdown := 1 } : State).countdown = 0 + 1 ∧ State.reset.countdown = 0 := by
  decide

/-- TicksAreOneStep: a state with no fault, in the middle of a countdown. -/
theorem witness_TicksAreOneStep : ({ State.reset with countdown := 2 } : State).fault = none := rfl

/-- Two timing tables, two countdowns. -/
theorem witness_TimingIsInvisible : State.reset.fault = none ∧ (∃ t, step State.reset = .next t) ∧
    ∃ u, step { State.reset with timing := ⟨[4], []⟩, countdown := 7, extra := 3 } = .next u := ⟨rfl, ⟨_, rfl⟩, ⟨_, rfl⟩⟩

/-- The clauses: a reply, a passed reply, no reply, a plain RAM, another address. -/
theorem witness_BusCalls : ({ mem := [], replies := [some 3#8], log := [] } : Bus).replies = some 3#8 :: [] ∧
    ({ mem := [], replies := [none], log := [] } : Bus).replies = none :: [] ∧ State.reset.bus.replies = [] ∧
    PlainRam State.reset ∧ (0x0000#16 : Word) ≠ 0xFFFF#16 := ⟨rfl, rfl, rfl, ⟨rfl, rfl⟩, by decide⟩

/-- A register file that is not the default one, and a bus with content. -/
theorem witness_ConstructedSatisfiesInvariant : someRegs.f &&& 0x0F#8 = 0#8 ∧ Memory.wf [(0, 1#8), (0xFFFF, 2#8)] = true := by
  decide

/-- The invariant holds at reset and after a fault, and both answer a step and a tick. -/
theorem witness_StepKeepsInvariant : Invariant State.reset ∧ (∃ t, step State.reset = .next t) ∧ (∃ t, tick State.reset = .next t) ∧
    Invariant { State.reset with fault := some (.unimplementedOpcode .t0 0x76#8) } ∧
    ∃ t, step { State.reset with fault := some (.unimplementedOpcode .t0 0x76#8) } = .next t :=
  ⟨⟨rfl, rfl, nofun, nofun⟩, ⟨_, rfl⟩, ⟨_, rfl⟩,
    ⟨rfl, rfl, fun _ _ => rfl, fun _ h => ⟨0x76#8, (Option.some.inj h).symm⟩⟩, ⟨_, rfl⟩⟩

/-- Both clauses: a byte three rows match, and one no row of a shorter table matches. -/
theorem witness_DecodeIsMostSpecific : (mostSpecific table0 0x76#8).map (·.text) = some "01110110" ∧
    ((table0.filter fun r => r.test 0x76#8).map (·.text)) = ["01dddsss", "01ddd110", "01110sss", "01110110"] ∧
    mostSpecific rows0Block01 0x80#8 = none := ⟨by decide, by decide +kernel, rfl⟩

/-- A form with every kind of operand, at its largest values. -/
theorem witness_DecodeOfEncode : WellFormed (.setR 7#3 .a) = true ∧ WellFormed (.jpCcA16 .c 0xFFFF#16) = true ∧
    WellFormed (.popRr .af) = true := by decide

theorem witness_EncodeOfDecode : decode [0xCB#8, 0xFF#8, 0x00#8] = .ok (.setR 7#3 .a) [0x00#8] := by decide

/-- A text with both constants and two fields, at its first and last characters; the field at bit 6 is at its ends. -/
theorem witness_TemplateTestAndFields : parsed "0aaaaab1" = some (0x81#8, 0x01#8, [('a', 6, 5), ('b', 1, 1)]) ∧
    "0aaaaab1".toList[0]? = some '0' ∧ "0aaaaab1".toList[7]? = some '1' ∧ "0aaaaab1".toList[1]? = some 'a' ∧
    Spec.isLetter 'a' ∧ (tpl "0aaaaab1").fields = [⟨'a', 6, 5⟩, ⟨'b', 1, 1⟩] :=
  ⟨rfl, rfl, rfl, rfl, by decide, rfl⟩

/-- Nothing offends in a text without letters. -/
theorem noOffence_constants (cs : List Char) (h : ∀ ch ∈ cs, ch = '0' ∨ ch = '1') : Spec.NoOffence cs := by
  refine ⟨fun ch hc => (h ch hc).imp_right .inl, fun i j k ch hl _ _ hi _ => ?_⟩
  rcases h ch (List.mem_of_getElem? hi) with rfl | rfl <;> exact absurd hl (by decide)

/-- Nothing offends before the bad character of R301's example 00xx-110. -/
theorem noOffence_00xx : Spec.NoOffence ['0', '0', 'x', 'x'] := by
  refine ⟨by simp [Spec.isLetter], fun i j k ch hl hij hjk hi hk => ?_⟩
  have hk4 : k < 4 := (List.getElem?_eq_some_iff.mp hk).1
  obtain ⟨rfl, rfl, rfl⟩ | hr : (i = 0 ∧ j = 1 ∧ k = 2) ∨ (i < j ∧ j < k ∧ k = 3) := by omega
  · cases hi; cases hk
  · obtain ⟨-, -, rfl⟩ := hr
    cases hk
    obtain rfl | rfl | rfl : i = 0 ∨ i = 1 ∨ i = 2 := by omega
    · cases hi
    · cases hi
    · omega

/-- The clauses on texts: R301's example, with its bad character after a letter, and R302's, a letter that comes back. -/
theorem witness_RegistrationRefusals_texts : "0000000".toList.length ≠ 8 ∧
    ("00xx-110".toList = ['0', '0', 'x', 'x'] ++ '-' :: ['1', '1', '0'] ∧ Spec.NoOffence ['0', '0', 'x', 'x'] ∧
      ¬ Spec.isLetter '-') ∧
    ("a0a00000".toList = ['a', '0'] ++ 'a' :: ['0', '0', '0', '0', '0'] ∧ Spec.NoOffence ['a', '0'] ∧ Spec.isLetter 'a' ∧
      'a' ∈ ['a', '0'] ∧ ['a', '0'].getLast? ≠ some 'a') ∧
    "11001011".toList.length = 8 ∧ Spec.NoOffence "11001011".toList := by
  refine ⟨by decide, ⟨rfl, noOffence_00xx, by decide⟩,
    ⟨rfl, ⟨by simp [Spec.isLetter], fun i j k ch _ hij hjk _ hk => ?_⟩, by decide, by decide,
      by decide⟩, rfl, noOffence_constants _ (by simp)⟩
  have : k < 2 := (List.getElem?_eq_some_iff.mp hk).1
  omega

/-- The clauses on duplicates: a taken and a free constant, a second and a first template of one mask and value. -/
theorem witness_RegistrationRefusals_index :
    (∃ ix, indexed ["00110110"] = some ix ∧ ((tpl "00110110").constVal, tpl "00110110") ∈ ix.constMap) ∧
    (∃ ix, indexed ["00ddd110"] = some ix ∧ tpl "00ddd110" ∈ Node.templatesList ix.roots) ∧
    ((tpl "00rrr110").isFullyConstant = false ∧ (tpl "00ddd110").constMask = (tpl "00rrr110").constMask ∧
      (tpl "00ddd110").constVal = (tpl "00rrr110").constVal) ∧
    (tpl "00110110").isFullyConstant = true ∧ (∀ q, ((tpl "00110110").constVal, q) ∉ PatternIndex.empty.constMap) ∧
    ∀ u ∈ Node.templatesList PatternIndex.empty.roots,
      ¬ (u.constMask = (tpl "00rrr110").constMask ∧ u.constVal = (tpl "00rrr110").constVal) :=
  ⟨⟨_, rfl, .head _⟩, ⟨_, rfl, .head _⟩, ⟨rfl, rfl, rfl⟩, rfl, fun _ => List.not_mem_nil,
    fun _ h => absurd h List.not_mem_nil⟩

/-- The three clauses, over the table of §2.6 with a stub added. -/
theorem witness_GeneralFaults : executed (grouped ++ [(.t0, "00000000", .unimplemented)]) 0x40#8 =
      some (some (.instructionCoverage .t0 0x40#8)) ∧
    executed (grouped ++ [(.t0, "00000000", .unimplemented)]) 0x00#8 = some (some (.unimplementedOpcode .t0 0x00#8)) ∧
    executed (grouped ++ [(.t0, "00000000", .unimplemented)]) 0xBF#8 = some (some (.unreachableDispatch .t0 0xBF#8)) := by
  decide +kernel

/-- A well-formed table, a chain of three and a constant, and another order of it. -/
theorem witness_PatternIndexComputesDecode :
    wellFormedTable (["00010000", "0aaaaaaa", "00bbbbbb", "0001dddd"].map tpl) = true ∧
    (["0001dddd", "00bbbbbb", "0aaaaaaa", "00010000"].map tpl).Perm
      (["00010000", "0aaaaaaa", "00bbbbbb", "0001dddd"].map tpl) := by
  decide +kernel

end Sys2Proof.Tests
end

/-! # Proofs: the register file (10_state.md)

The bytes, pairs and flags of the model, in the arithmetic the statements are written in. -/

namespace Sys2Proof.Machine

open Sys2Proof.Spec

/-! ## Pairs (R12) -/

theorem mk16_eq_word (x y : Byte) : mk16 x y = word x y := by
  apply BitVec.eq_of_toNat_eq
  rw [toNat_mk16, word, BitVec.toNat_ofNat]
  have hx := x.isLt
  have hy := y.isLt
  omega

theorem hi8_eq_high (v : Word) : hi8 v = high v := by
  rw [high, ← toNat_hi8, BitVec.ofNat_toNat, BitVec.setWidth_eq]

theorem lo8_eq_low (v : Word) : lo8 v = low v := by
  rw [low, ← toNat_lo8, BitVec.ofNat_toNat, BitVec.setWidth_eq]

theorem RegFile.setBc_eq (v : Word) (r : RegFile) : r.setBc v = { r with b := high v, c := low v } := by
  rw [RegFile.setBc, hi8_eq_high, lo8_eq_low]

theorem RegFile.setDe_eq (v : Word) (r : RegFile) : r.setDe v = { r with d := high v, e := low v } := by
  rw [RegFile.setDe, hi8_eq_high, lo8_eq_low]

theorem RegFile.setHl_eq (v : Word) (r : RegFile) : r.setHl v = { r with h := high v, l := low v } := by
  rw [RegFile.setHl, hi8_eq_high, lo8_eq_low]

/-! ## The F setter (R11) -/

theorem and_F0_eq_ofNat (v : Byte) : v &&& 0xF0#8 = BitVec.ofNat 8 (16 * (v.toNat / 16)) := by
  revert v
  decide

theorem RegFile.setF_eq (v : Byte) (r : RegFile) :
    r.setF v = { r with f := BitVec.ofNat 8 (16 * (v.toNat / 16)) } := by
  rw [RegFile.setF, and_F0_eq_ofNat]

theorem RegFile.setAf_eq (v : Word) (r : RegFile) :
    r.setAf v = { r with a := high v, f := BitVec.ofNat 8 (16 * (v.toNat % 256 / 16)) } := by
  rw [RegFile.setAf, RegFile.setF_eq, toNat_lo8, hi8_eq_high]

/-! ## Flags (R13) -/

theorem getLsbD_eq_div_mod (f : Byte) (i : Nat) : f.getLsbD i = (f.toNat / 2 ^ i % 2 == 1) := by
  rw [← BitVec.testBit_toNat, Nat.testBit_eq_decide_div_mod_eq]
  rfl

theorem RegFile.flagZ_eq_zOf (r : RegFile) : r.flagZ = zOf r := getLsbD_eq_div_mod r.f 7
theorem RegFile.flagN_eq_nOf (r : RegFile) : r.flagN = nOf r := getLsbD_eq_div_mod r.f 6
theorem RegFile.flagH_eq_hOf (r : RegFile) : r.flagH = hOf r := getLsbD_eq_div_mod r.f 5
theorem RegFile.flagC_eq_cOf (r : RegFile) : r.flagC = cOf r := getLsbD_eq_div_mod r.f 4

/-- With its low nibble 0, F is determined by its four flags. -/
theorem RegFile.f_eq_flagByte_of_low {r : RegFile} (hlow : r.f &&& 0x0F#8 = 0#8) :
    r.f = flagByte r.flagZ r.flagN r.flagH r.flagC := by
  simp only [RegFile.flagZ, RegFile.flagN, RegFile.flagH, RegFile.flagC]
  generalize r.f = f at hlow
  revert f
  decide

/-- A flag write changes F only, to the byte of the four flags as they then read. -/
theorem RegFile.setFlag_eq_of_flags {m : Byte} {v z n h c : Bool} {r : RegFile}
    (hz : (r.setFlag m v).flagZ = z) (hn : (r.setFlag m v).flagN = n)
    (hh : (r.setFlag m v).flagH = h) (hc : (r.setFlag m v).flagC = c) :
    r.setFlag m v = { r with f := flagByte z n h c } := by
  rw [← hz, ← hn, ← hh, ← hc, ← RegFile.f_eq_flagByte_of_low (RegFile.setFlag_low m v r)]
  rfl

theorem RegFile.setZ_eq (v : Bool) (r : RegFile) :
    r.setZ v = { r with f := flagByte v (nOf r) (hOf r) (cOf r) } :=
  setFlag_eq_of_flags (flagZ_setZ v r) ((flagN_setZ v r).trans r.flagN_eq_nOf)
    ((flagH_setZ v r).trans r.flagH_eq_hOf) ((flagC_setZ v r).trans r.flagC_eq_cOf)

theorem RegFile.setN_eq (v : Bool) (r : RegFile) :
    r.setN v = { r with f := flagByte (zOf r) v (hOf r) (cOf r) } :=
  setFlag_eq_of_flags ((flagZ_setN v r).trans r.flagZ_eq_zOf) (flagN_setN v r)
    ((flagH_setN v r).trans r.flagH_eq_hOf) ((flagC_setN v r).trans r.flagC_eq_cOf)

theorem RegFile.setH_eq (v : Bool) (r : RegFile) :
    r.setH v = { r with f := flagByte (zOf r) (nOf r) v (cOf r) } :=
  setFlag_eq_of_flags ((flagZ_setH v r).trans r.flagZ_eq_zOf) ((flagN_setH v r).trans r.flagN_eq_nOf)
    (flagH_setH v r) ((flagC_setH v r).trans r.flagC_eq_cOf)

theorem RegFile.setC_eq (v : Bool) (r : RegFile) :
    r.setC v = { r with f := flagByte (zOf r) (nOf r) (hOf r) v } :=
  setFlag_eq_of_flags ((flagZ_setC v r).trans r.flagZ_eq_zOf) ((flagN_setC v r).trans r.flagN_eq_nOf)
    ((flagH_setC v r).trans r.flagH_eq_hOf) (flagC_setC v r)

/-! ## The accessors together -/

/-- Settles O46: each accessor by its equation above. -/
theorem registerFile : Obligations.RegisterFile := by
  unfold Obligations.RegisterFile
  refine fun r => ⟨?setF, ?readPair, ?writePair, ?readFlag, ?writeFlag⟩
  case setF => exact fun v => r.setF_eq v
  case readPair => exact ⟨mk16_eq_word _ _, mk16_eq_word _ _, mk16_eq_word _ _, mk16_eq_word _ _⟩
  case writePair => exact fun v => ⟨r.setAf_eq v, r.setBc_eq v, r.setDe_eq v, r.setHl_eq v⟩
  case readFlag => exact ⟨r.flagZ_eq_zOf, r.flagN_eq_nOf, r.flagH_eq_hOf, r.flagC_eq_cOf⟩
  case writeFlag => exact fun v => ⟨r.setZ_eq v, r.setN_eq v, r.setH_eq v, r.setC_eq v⟩

end Sys2Proof.Machine

/-! # Proofs: operands, addresses and opcodes (30_encoding.md, 41_engine.md)

The shared operations of a handler, and the dispatch of an opcode, in the words the statements are written in. -/

namespace Sys2Proof.Machine

open Sys2Proof.Spec

/-! ## Addresses and 16-bit steps (30_encoding.md R69; 40_primitives.md R114) -/

theorem RegFile.hl_eq (r : RegFile) : r.hl = Spec.hl r := mk16_eq_word r.h r.l

theorem highPage_eq_page (n : Byte) : highPage n = page n := mk16_eq_word 0xFF#8 n

theorem inc16_eq_ofNat (x : Word) : inc16 x = BitVec.ofNat 16 (x.toNat + 1) := by
  apply BitVec.eq_of_toNat_eq
  simp [inc16]

theorem dec16_eq_ofNat (x : Word) : dec16 x = BitVec.ofNat 16 (x.toNat + 65535) := by
  apply BitVec.eq_of_toNat_eq
  simp [dec16, BitVec.toNat_sub, Nat.add_comm]

/-! ## The `r8` operand (41_engine.md R125) -/

/-- A register operand is read from the register file alone. -/
theorem State.readR8_register {i : R8} (hi : i ≠ .indHl) (s : State) : s.readR8 i = (register s.rf i, s) := by
  cases i with
  | indHl => exact absurd rfl hi
  | _ => rfl

/-- A register operand is written to the register file alone. -/
theorem State.writeR8_register {i : R8} (hi : i ≠ .indHl) (v : Byte) (s : State) :
    s.writeR8 i v = { s with rf := withRegister s.rf i v } := by
  cases i with
  | indHl => exact absurd rfl hi
  | _ => rfl

/-! ## Dispatch (41_engine.md R121, R124) -/

/-- An opcode that decodes to a form without operand bytes runs its instruction. -/
theorem runs_of_decodeOpcode {t : TableIx} {op : Nat} {i : Instr}
    (h : decodeOpcode t (BitVec.ofNat 8 op) = some (.op i)) : Runs t op i := by
  intro s
  simp only [execute, h, runForm]

/-- An opcode that decodes to a one-byte form fetches the byte, then runs the instruction of it. -/
theorem runs8_of_decodeOpcode {op : Nat} {k : Byte → Instr}
    (h : decodeOpcode .t0 (BitVec.ofNat 8 op) = some (.imm8 k)) : Runs8 op k := by
  intro s
  simp only [execute, h, runForm]
  rfl

/-- An opcode that decodes to a two-byte form fetches the low byte, then the high one, then runs the instruction of both. -/
theorem runs16_of_decodeOpcode {op : Nat} {k : Word → Instr}
    (h : decodeOpcode .t0 (BitVec.ofNat 8 op) = some (.imm16 k)) : Runs16 op k := by
  intro s
  simp only [execute, h, runForm, State.fetch16_eq, mk16_eq_word]
  rfl

end Sys2Proof.Machine

/-! # Proofs: 8-bit loads (42_load8.md) -/

namespace Sys2Proof.Machine

open Sys2Proof.Spec

/-! ## Opcodes of the register forms (R140 to R143) -/

theorem decodeOpcode_ldRR {dst src : R8} (hdst : dst ≠ .indHl) (hsrc : src ≠ .indHl) :
    decodeOpcode .t0 (BitVec.ofNat 8 (0x40 + 8 * number dst + number src)) = some (.op (.ldRR dst src)) := by
  cases dst with
  | indHl => exact absurd rfl hdst
  | _ =>
    cases src with
    | indHl => exact absurd rfl hsrc
    | _ => rfl

theorem decodeOpcode_ldRD8 {dst : R8} (hdst : dst ≠ .indHl) :
    decodeOpcode .t0 (BitVec.ofNat 8 (0x06 + 8 * number dst)) = some (.imm8 (.ldRD8 dst)) := by
  cases dst with
  | indHl => exact absurd rfl hdst
  | _ => rfl

theorem decodeOpcode_ldRIndHl {dst : R8} (hdst : dst ≠ .indHl) :
    decodeOpcode .t0 (BitVec.ofNat 8 (0x46 + 8 * number dst)) = some (.op (.ldRIndHl dst)) := by
  cases dst with
  | indHl => exact absurd rfl hdst
  | _ => rfl

theorem decodeOpcode_ldIndHlR {src : R8} (hsrc : src ≠ .indHl) :
    decodeOpcode .t0 (BitVec.ofNat 8 (0x70 + number src)) = some (.op (.ldIndHlR src)) := by
  cases src with
  | indHl => exact absurd rfl hsrc
  | _ => rfl

/-! ## Loads of a register (R140 to R142) -/

theorem exec_ldRR {dst src : R8} (hdst : dst ≠ .indHl) (hsrc : src ≠ .indHl) (s : State) :
    exec (.ldRR dst src) s = done s (withRegister s.rf dst (register s.rf src)) 0 := by
  change execLdRR dst src s = _
  simp only [execLdRR, State.readR8_register hsrc, State.writeR8_register hdst]
  rfl

theorem exec_ldRD8 {dst : R8} (hdst : dst ≠ .indHl) (v : Byte) (s : State) :
    exec (.ldRD8 dst v) s = done s (withRegister s.rf dst v) 0 := by
  change execLdRD8 dst v s = _
  simp only [execLdRD8, State.writeR8_register hdst]
  rfl

/-- The address is HL before the write, also where the register is H or L. -/
theorem exec_ldRIndHl {dst : R8} (hdst : dst ≠ .indHl) (s : State) :
    exec (.ldRIndHl dst) s =
      done (afterRead (hl s.rf) s) (withRegister s.rf dst (s.bus.answer (hl s.rf))) 0 := by
  change execLdRIndHl dst s = _
  simp only [execLdRIndHl, State.writeR8_register hdst, RegFile.hl_eq]
  rfl

/-- Settles O1: a register operand is read and written in the register file alone. -/
theorem loadRegister : Obligations.LoadRegister := by
  unfold Obligations.LoadRegister
  intro dst hdst
  refine ⟨fun r hr => ⟨?opRegister, exec_ldRR hdst hr⟩, ?opImmediate, fun s v => exec_ldRD8 hdst v s⟩
  case opRegister => exact runs_of_decodeOpcode (decodeOpcode_ldRR hdst hr)
  case opImmediate => exact runs8_of_decodeOpcode (decodeOpcode_ldRD8 hdst)

/-! ## Loads from the bus (R142, R145, R146, R153, R155, R157) -/

/-- A load of A is one bus read and the write of A. -/
theorem loadA_eq_done {a b : Word} (hab : a = b) (s : State) :
    loadA a s = done (afterRead b s) { s.rf with a := s.bus.answer b } 0 := by
  rw [hab]
  rfl

/-- Settles O2: one bus read at the address of the rule, then the register. -/
theorem loadFromBus : Obligations.LoadFromBus := by
  unfold Obligations.LoadFromBus
  refine ⟨?indHl, ?indBc, ?indDe, ?indC, ?indA16, ?indA8⟩
  case indHl => exact fun dst hdst => ⟨runs_of_decodeOpcode (decodeOpcode_ldRIndHl hdst), exec_ldRIndHl hdst⟩
  case indBc => exact ⟨runs_of_decodeOpcode rfl, fun s => loadA_eq_done (mk16_eq_word s.rf.b s.rf.c) s⟩
  case indDe => exact ⟨runs_of_decodeOpcode rfl, fun s => loadA_eq_done (mk16_eq_word s.rf.d s.rf.e) s⟩
  case indC => exact ⟨runs_of_decodeOpcode rfl, fun s => loadA_eq_done (highPage_eq_page s.rf.c) s⟩
  case indA16 => exact ⟨runs16_of_decodeOpcode rfl, fun s _ => loadA_eq_done rfl s⟩
  case indA8 => exact ⟨runs8_of_decodeOpcode rfl, fun s n => loadA_eq_done (highPage_eq_page n) s⟩

/-! ## Stores to the bus (R143, R144, R147, R148, R154, R156, R158) -/

theorem exec_ldIndHlR {src : R8} (hsrc : src ≠ .indHl) (s : State) :
    exec (.ldIndHlR src) s = done (afterWrite (hl s.rf) (register s.rf src) s) s.rf 0 := by
  change execLdIndHlR src s = _
  simp only [execLdIndHlR, State.readR8_register hsrc, RegFile.hl_eq]
  rfl

theorem exec_ldIndHlD8 (v : Byte) (s : State) :
    exec (.ldIndHlD8 v) s = done (afterWrite (hl s.rf) v s) s.rf 0 := by
  rw [← RegFile.hl_eq]
  rfl

/-- A store of A is one bus write and leaves the register file alone. -/
theorem storeA_eq_done {a b : Word} (hab : a = b) (s : State) :
    storeA a s = done (afterWrite b s.rf.a s) s.rf 0 := by
  rw [hab]
  rfl

/-- Settles O3: one bus write at the address of the rule. -/
theorem storeToBus : Obligations.StoreToBus := by
  unfold Obligations.StoreToBus
  refine ⟨?indHl, ?indBc, ?indDe, ?indC, ?indHlImmediate, ?indA16, ?indA8⟩
  case indHl => exact fun r hr => ⟨runs_of_decodeOpcode (decodeOpcode_ldIndHlR hr), exec_ldIndHlR hr⟩
  case indBc => exact ⟨runs_of_decodeOpcode rfl, fun s => storeA_eq_done (mk16_eq_word s.rf.b s.rf.c) s⟩
  case indDe => exact ⟨runs_of_decodeOpcode rfl, fun s => storeA_eq_done (mk16_eq_word s.rf.d s.rf.e) s⟩
  case indC => exact ⟨runs_of_decodeOpcode rfl, fun s => storeA_eq_done (highPage_eq_page s.rf.c) s⟩
  case indHlImmediate => exact ⟨runs8_of_decodeOpcode rfl, fun s v => exec_ldIndHlD8 v s⟩
  case indA16 => exact ⟨runs16_of_decodeOpcode rfl, fun s _ => storeA_eq_done rfl s⟩
  case indA8 => exact ⟨runs8_of_decodeOpcode rfl, fun s n => storeA_eq_done (highPage_eq_page n) s⟩

/-! ## Accesses that step HL (R149 to R152) -/

/-- HL is written last, with the address of the access already fixed. -/
theorem ret_setHl_eq_done (v : Word) (s : State) :
    ret 0 (s.withRf (RegFile.set16 .hl v)) = done s (withPair s.rf .hl v) 0 := by
  rw [State.withRf, RegFile.set16_hl, RegFile.setHl_eq]
  rfl

theorem inc16_hl (r : RegFile) : inc16 r.hl = BitVec.ofNat 16 ((hl r).toNat + 1) := by
  rw [RegFile.hl_eq, inc16_eq_ofNat]

theorem dec16_hl (r : RegFile) : dec16 r.hl = BitVec.ofNat 16 ((hl r).toNat + 65535) := by
  rw [RegFile.hl_eq, dec16_eq_ofNat]

/-- `LD A,(HL+)` and `LD A,(HL-)`, for any value HL steps to. -/
theorem loadA_setHl_eq_done {v w : Word} (hvw : v = w) (s : State) :
    ret 0 (((s.memRead s.rf.hl).2.withRf (RegFile.set8 .a (s.bus.answer s.rf.hl))).withRf (RegFile.set16 .hl v)) =
      done (afterRead (hl s.rf) s) (withPair { s.rf with a := s.bus.answer (hl s.rf) } .hl w) 0 := by
  rw [ret_setHl_eq_done, RegFile.hl_eq, hvw]
  rfl

/-- `LD (HL+),A` and `LD (HL-),A`, for any value HL steps to. -/
theorem storeA_setHl_eq_done {v w : Word} (hvw : v = w) (s : State) :
    ret 0 ((s.memWrite s.rf.hl s.rf.a).withRf (RegFile.set16 .hl v)) =
      done (afterWrite (hl s.rf) s.rf.a s) (withPair s.rf .hl w) 0 := by
  rw [ret_setHl_eq_done, RegFile.hl_eq, hvw]
  rfl

/-- Settles O4: the access is at the old HL, and the step of HL is the arithmetic one. -/
theorem loadStoreStepHl : Obligations.LoadStoreStepHl := by
  unfold Obligations.LoadStoreStepHl
  refine ⟨?loadUp, ?loadDown, ?storeUp, ?storeDown⟩
  case loadUp => exact ⟨runs_of_decodeOpcode rfl, fun s => loadA_setHl_eq_done (inc16_hl s.rf) s⟩
  case loadDown => exact ⟨runs_of_decodeOpcode rfl, fun s => loadA_setHl_eq_done (dec16_hl s.rf) s⟩
  case storeUp => exact ⟨runs_of_decodeOpcode rfl, fun s => storeA_setHl_eq_done (inc16_hl s.rf) s⟩
  case storeDown => exact ⟨runs_of_decodeOpcode rfl, fun s => storeA_setHl_eq_done (dec16_hl s.rf) s⟩

end Sys2Proof.Machine

/-! # Proofs: 16-bit loads and the stack (43_load16_stack.md)

The pairs, the push and the pop in the words of the statements, then each instruction by them. -/

namespace Sys2Proof.Machine

open Sys2Proof.Spec

/-! ## Pair operands (30_encoding.md R71; 10_state.md R12) -/

theorem RegFile.set16_r16Id (p : R16) (v : Word) (r : RegFile) : r.set16 (r16Id p) v = withPair r p v := by
  cases p with
  | bc => exact r.setBc_eq v
  | de => exact r.setDe_eq v
  | hl => exact r.setHl_eq v
  | sp => rfl

theorem RegFile.get16_r16StkId (p : R16Stk) (r : RegFile) : r.get16 (r16StkId p) = stackPair r p := by
  cases p <;> exact mk16_eq_word _ _

theorem RegFile.set16_r16StkId (p : R16Stk) (v : Word) (r : RegFile) :
    r.set16 (r16StkId p) v = withStackPair r p v := by
  cases p with
  | bc => exact r.setBc_eq v
  | de => exact r.setDe_eq v
  | hl => exact r.setHl_eq v
  | af => exact r.setAf_eq v

/-! ## The stack (41_engine.md R126) -/

/-- A push writes twice below SP; SP is the only register it changes. -/
theorem State.push16_eq_afterWrite (v : Word) (s : State) :
    s.push16 v =
      { afterWrite (s.rf.sp - 2) (low v) (afterWrite (s.rf.sp - 1) (high v) s) with
        rf := { s.rf with sp := s.rf.sp - 2 } } := by
  have hsp : s.rf.sp - 1 - 1 = s.rf.sp - 2 := sub_sub s.rf.sp 1 1
  rw [State.push16_eq, hsp, hi8_eq_high, lo8_eq_low]
  rfl

/-- A pop reads twice from SP up; SP is the only register it changes. -/
theorem State.pop16_eq_afterRead (s : State) :
    s.pop16 =
      (word ((afterRead s.rf.sp s).bus.answer (s.rf.sp + 1)) (s.bus.answer s.rf.sp),
        { afterRead (s.rf.sp + 1) (afterRead s.rf.sp s) with rf := { s.rf with sp := s.rf.sp + 2 } }) := by
  have hsp : s.rf.sp + 1 + 1 = s.rf.sp + 2 := add_assoc s.rf.sp 1 1
  rw [State.pop16_eq, hsp, mk16_eq_word]
  rfl

/-! ## `PUSH rr` and `POP rr` (R174, R175) -/

theorem decodeOpcode_pushRr (p : R16Stk) :
    decodeOpcode .t0 (BitVec.ofNat 8 (0xC5 + 16 * stackPairNumber p)) = some (.op (.pushRr p)) := by
  cases p <;> rfl

theorem decodeOpcode_popRr (p : R16Stk) :
    decodeOpcode .t0 (BitVec.ofNat 8 (0xC1 + 16 * stackPairNumber p)) = some (.op (.popRr p)) := by
  cases p <;> rfl

/-- Settles O7: a push of the pair's value. -/
theorem pushPair : Obligations.PushPair := by
  unfold Obligations.PushPair
  refine fun p => ⟨runs_of_decodeOpcode (decodeOpcode_pushRr p), fun s => ?_⟩
  change execPushRr p s = _
  rw [execPushRr, RegFile.get16_r16StkId, State.push16_eq_afterWrite]
  rfl

/-- Settles O8: a pop into the pair, SP already moved; only AF goes through the F setter. -/
theorem popPair : Obligations.PopPair := by
  unfold Obligations.PopPair
  refine fun p => ⟨runs_of_decodeOpcode (decodeOpcode_popRr p), fun s => ?_⟩
  change execPopRr p s = _
  simp only [execPopRr, State.pop16_eq_afterRead, State.withRf, RegFile.set16_r16StkId]
  rfl

/-! ## `LD rr,d16`, `LD SP,HL`, `LD (a16),SP` (R170 to R172) -/

theorem decodeOpcode_ldRrD16 (p : R16) :
    decodeOpcode .t0 (BitVec.ofNat 8 (0x01 + 16 * pairNumber p)) = some (.imm16 (.ldRrD16 p)) := by
  cases p <;> rfl

theorem exec_ldRrD16 (p : R16) (v : Word) (s : State) :
    exec (.ldRrD16 p v) s = done s (withPair s.rf p v) 0 := by
  change execLdRrD16 p v s = _
  rw [execLdRrD16, State.withRf, RegFile.set16_r16Id]
  rfl

theorem exec_ldSpHl (s : State) : exec .ldSpHl s = done s { s.rf with sp := hl s.rf } 0 := by
  rw [← RegFile.hl_eq]
  rfl

theorem exec_ldIndA16Sp (a : Word) (s : State) :
    exec (.ldIndA16Sp a) s =
      done (afterWrite (BitVec.ofNat 16 (a.toNat + 1)) (high s.rf.sp) (afterWrite a (low s.rf.sp) s)) s.rf 0 := by
  rw [← inc16_eq_ofNat, ← hi8_eq_high, ← lo8_eq_low]
  rfl

/-- Settles O5: the pair of the form is written, or SP is stored low byte first. -/
theorem loadPairStoreStackPointer : Obligations.LoadPairStoreStackPointer := by
  unfold Obligations.LoadPairStoreStackPointer
  refine ⟨?loadPair, ?loadSp, ?opStoreSp, fun s a => exec_ldIndA16Sp a s⟩
  case loadPair => exact fun p => ⟨runs16_of_decodeOpcode (decodeOpcode_ldRrD16 p), fun s v => exec_ldRrD16 p v s⟩
  case loadSp => exact ⟨runs_of_decodeOpcode rfl, exec_ldSpHl⟩
  case opStoreSp => exact runs16_of_decodeOpcode rfl

/-! ## `LD HL,SP+e8` and `ADD SP,e8` (R173, R223; 40_primitives.md R110) -/

/-- `sext8` is the two's complement reading of a byte (00_scope.md R6). -/
theorem sext8_eq_toInt (e : Byte) : sext8 e = e.toInt := by
  rw [sext8, BitVec.toInt_eq_toNat_cond]
  split <;> split <;> omega

theorem addDisp_eq_displaced (w : Word) (e : Byte) : addDisp w e = displaced w e := by
  rw [addDisp, sext8_eq_toInt, displaced]

theorem RegFile.setZNHC_eq (z n h c : Bool) (r : RegFile) :
    r.setZNHC z n h c = { r with f := flagByte z n h c } :=
  setFlag_eq_of_flags (flagZ_setZNHC z n h c r) (flagN_setZNHC z n h c r) (flagH_setZNHC z n h c r)
    (flagC_setZNHC z n h c r)

theorem addSpDisp_eq (e : Byte) (r : RegFile) :
    addSpDisp e r = (displaced r.sp e, { r with f := displacedFlags r e }) := by
  simp only [addSpDisp, addDisp_eq_displaced, RegFile.setZNHC_eq]
  rfl

theorem exec_ldHlSpE8 (e : Byte) (s : State) :
    exec (.ldHlSpE8 e) s =
      done s (withPair { s.rf with f := displacedFlags s.rf e } .hl (displaced s.rf.sp e)) 0 := by
  change execLdHlSpE8 e s = _
  simp only [execLdHlSpE8, addSpDisp_eq, RegFile.set16_hl, RegFile.setHl_eq]
  rfl

theorem exec_addSpE8 (e : Byte) (s : State) :
    exec (.addSpE8 e) s = done s { s.rf with f := displacedFlags s.rf e, sp := displaced s.rf.sp e } 0 := by
  change execAddSpE8 e s = _
  simp only [execAddSpE8, addSpDisp_eq, RegFile.set16_sp]
  rfl

/-- Settles O6: one sum of SP and the displacement, to HL or to SP. -/
theorem stackPointerPlusDisplacement : Obligations.StackPointerPlusDisplacement := by
  unfold Obligations.StackPointerPlusDisplacement
  refine ⟨?toHl, ?toSp⟩
  case toHl => exact ⟨runs8_of_decodeOpcode rfl, fun s e => exec_ldHlSpE8 e s⟩
  case toSp => exact ⟨runs8_of_decodeOpcode rfl, fun s e => exec_addSpE8 e s⟩

end Sys2Proof.Machine

/-! # Proofs: a primitive on an operand (40_primitives.md R90; 41_engine.md R125)

What a handler that runs a primitive answers, in the words of the statements, and the two families of one shape from it. -/

namespace Sys2Proof.Machine

open Sys2Proof.Spec

/-! ## Accumulator primitives -/

theorem accR8_eq_done {i : R8} (hi : i ≠ .indHl) (prim : Byte → RegFile → RegFile) (s : State) :
    accR8 prim i s = done s (prim (register s.rf i) s.rf) 0 := by
  rw [accR8, State.readR8_register hi]
  rfl

theorem accIndHl_eq_done (prim : Byte → RegFile → RegFile) (s : State) :
    accIndHl prim s = done (afterRead (hl s.rf) s) (prim (s.bus.answer (hl s.rf)) s.rf) 0 := by
  rw [accIndHl, RegFile.hl_eq]
  rfl

theorem accD8_eq_done (prim : Byte → RegFile → RegFile) (v : Byte) (s : State) :
    accD8 prim v s = done s (prim v s.rf) 0 := rfl

/-- An operation is one of the eight where its three forms run one primitive and that primitive is its arithmetic. -/
theorem accumulates_of_primitive {k : Nat} {g : RegFile → Byte → RegFile} {prim : Byte → RegFile → RegFile}
    {onReg : R8 → Instr} {onHl : Instr} {onImm : Byte → Instr}
    (hprim : ∀ r v, prim v r = g r v)
    (opReg : ∀ i, i ≠ .indHl →
      decodeOpcode .t0 (BitVec.ofNat 8 (0x80 + 8 * k + number i)) = some (.op (onReg i)))
    (opHl : decodeOpcode .t0 (BitVec.ofNat 8 (0x86 + 8 * k)) = some (.op onHl))
    (opImm : decodeOpcode .t0 (BitVec.ofNat 8 (0xC6 + 8 * k)) = some (.imm8 onImm))
    (execReg : ∀ i s, exec (onReg i) s = accR8 prim i s)
    (execHl : ∀ s, exec onHl s = accIndHl prim s)
    (execImm : ∀ v s, exec (onImm v) s = accD8 prim v s) :
    Accumulates k g onReg onHl onImm := by
  refine ⟨fun i hi => ⟨runs_of_decodeOpcode (opReg i hi), fun s => ?reg⟩, runs_of_decodeOpcode opHl, fun s => ?indHl,
    runs8_of_decodeOpcode opImm, fun s v => ?imm⟩
  case reg => rw [execReg, accR8_eq_done hi, hprim]
  case indHl => rw [execHl, accIndHl_eq_done, hprim]
  case imm => rw [execImm, accD8_eq_done, hprim]

/-! ## Operand primitives -/

theorem modR8_eq_done {i : R8} (hi : i ≠ .indHl) (prim : Byte → RegFile → Byte × RegFile) (s : State) :
    modR8 prim i s =
      done s (withRegister (prim (register s.rf i) s.rf).2 i (prim (register s.rf i) s.rf).1) 0 := by
  simp only [modR8, State.readR8_register hi, State.writeR8_register hi]
  rfl

theorem modIndHl_eq_done (prim : Byte → RegFile → Byte × RegFile) (s : State) :
    modIndHl prim s =
      done (afterWrite (hl s.rf) (prim (s.bus.answer (hl s.rf)) s.rf).1 (afterRead (hl s.rf) s))
        (prim (s.bus.answer (hl s.rf)) s.rf).2 0 := by
  rw [modIndHl, RegFile.hl_eq]
  rfl

/-- An operation replaces its operand where its two forms run one primitive and that primitive is its arithmetic. -/
theorem replaces_of_primitive {t : TableIx} {base scale : Nat} {val : RegFile → Byte → Byte}
    {upd : RegFile → Byte → RegFile} {prim : Byte → RegFile → Byte × RegFile} {onReg : R8 → Instr} {onHl : Instr}
    (hprim : ∀ r x, prim x r = (val r x, upd r x))
    (opReg : ∀ i, i ≠ .indHl →
      decodeOpcode t (BitVec.ofNat 8 (base + scale * number i)) = some (.op (onReg i)))
    (opHl : decodeOpcode t (BitVec.ofNat 8 (base + scale * 6)) = some (.op onHl))
    (execReg : ∀ i s, exec (onReg i) s = modR8 prim i s)
    (execHl : ∀ s, exec onHl s = modIndHl prim s) :
    Replaces t base scale val upd onReg onHl := by
  refine ⟨fun i hi => ⟨runs_of_decodeOpcode (opReg i hi), fun s => ?reg⟩, runs_of_decodeOpcode opHl, fun s => ?indHl⟩
  case reg => rw [execReg, modR8_eq_done hi, hprim]
  case indHl => rw [execHl, modIndHl_eq_done, hprim]

/-! ## Every register operand -/

/-- What holds of the seven register operands holds of every operand but `(HL)`. -/
theorem R8.forall_register {p : R8 → Prop} (hb : p .b) (hc : p .c) (hd : p .d) (he : p .e) (hh : p .h) (hl : p .l)
    (ha : p .a) (i : R8) (hi : i ≠ .indHl) : p i := by
  cases i with
  | b => exact hb
  | c => exact hc
  | d => exact hd
  | e => exact he
  | h => exact hh
  | l => exact hl
  | indHl => exact absurd rfl hi
  | a => exact ha

end Sys2Proof.Machine

/-! # Proofs: 8-bit arithmetic and logic (44_alu8.md)

Each primitive as the arithmetic of 40_primitives.md, then each operation as its forms over the primitive. -/

namespace Sys2Proof.Machine

open Sys2Proof.Spec

/-! ## Flags of a result (40_primitives.md R90) -/

theorem decide_eq_zero (x : Byte) : decide (x = 0#8) = (x.toNat == 0) :=
  decide_eq_decide.mpr BitVec.toNat_inj.symm

theorem decide_ofNat_eq_zero (n : Nat) : decide (BitVec.ofNat 8 n = 0#8) = (n % 256 == 0) := by
  rw [decide_eq_zero, BitVec.toNat_ofNat]

/-- Z, N and H written, C as it was. -/
theorem RegFile.setZ_setN_setH_eq (z n h : Bool) (r : RegFile) :
    ((r.setZ z).setN n).setH h = { r with f := flagByte z n h (cOf r) } :=
  setFlag_eq_of_flags ((flagZ_setH h _).trans ((flagZ_setN n _).trans (flagZ_setZ z r)))
    ((flagN_setH h _).trans (flagN_setN n _)) (flagH_setH h _)
    ((flagC_setH h _).trans ((flagC_setN n _).trans ((flagC_setZ z r).trans r.flagC_eq_cOf)))

/-- N and H written, Z and C as they were. -/
theorem RegFile.setN_setH_eq (n h : Bool) (r : RegFile) :
    (r.setN n).setH h = { r with f := flagByte (zOf r) n h (cOf r) } :=
  setFlag_eq_of_flags ((flagZ_setH h _).trans ((flagZ_setN n r).trans r.flagZ_eq_zOf))
    ((flagN_setH h _).trans (flagN_setN n r)) (flagH_setH h _)
    ((flagC_setH h _).trans ((flagC_setN n r).trans r.flagC_eq_cOf))

/-- N, H and C written, Z as it was. -/
theorem RegFile.setN_setH_setC_eq (n h c : Bool) (r : RegFile) :
    ((r.setN n).setH h).setC c = { r with f := flagByte (zOf r) n h c } :=
  setFlag_eq_of_flags ((flagZ_setC c _).trans ((flagZ_setH h _).trans ((flagZ_setN n r).trans r.flagZ_eq_zOf)))
    ((flagN_setC c _).trans ((flagN_setH h _).trans (flagN_setN n r)))
    ((flagH_setC c _).trans (flagH_setH h _)) (flagC_setC c _)

/-! ## Addition and subtraction (R91, R92) -/

/-- The carry-in as a number. -/
theorem carryIn_eq_toNat (useCarry : Bool) (r : RegFile) :
    (if useCarry && r.flagC then 1 else 0) = (useCarry && cOf r).toNat := by
  rw [RegFile.flagC_eq_cOf]
  cases useCarry && cOf r <;> rfl

theorem add8_eq_added (useCarry : Bool) (v : Byte) (r : RegFile) :
    add8 useCarry v r = added (useCarry && cOf r) r v := by
  simp only [add8, carryIn_eq_toNat, decide_ofNat_eq_zero, RegFile.setZNHC_eq]
  rfl

/-- A difference of bytes with a borrow modulo 256, lifted by 512 so that it is no less than 0. -/
theorem ofInt_sub_eq_ofNat (a v : Byte) (borrow : Bool) :
    BitVec.ofInt 8 ((a.toNat : Int) - v.toNat - borrow.toNat) =
      BitVec.ofNat 8 (256 + 256 + a.toNat - v.toNat - borrow.toNat) := by
  apply BitVec.eq_of_toNat_eq
  have hv := v.isLt
  have hb := borrow.toNat_le
  rw [BitVec.toNat_ofInt, BitVec.toNat_ofNat]
  omega

/-- The flags are those of the difference, also where A is not written. -/
theorem sub8_eq (useBorrow writeA : Bool) (v : Byte) (r : RegFile) :
    sub8 useBorrow writeA v r =
      { r with
        a := if writeA then (subtracted (useBorrow && cOf r) r v).a else r.a
        f := subtractedFlags (useBorrow && cOf r) r v } := by
  simp only [sub8, carryIn_eq_toNat, ofInt_sub_eq_ofNat, decide_ofNat_eq_zero, RegFile.setZNHC_eq]
  rfl

theorem sub8_eq_subtracted (useBorrow : Bool) (v : Byte) (r : RegFile) :
    sub8 useBorrow true v r = subtracted (useBorrow && cOf r) r v := sub8_eq useBorrow true v r

theorem sub8_eq_compared (v : Byte) (r : RegFile) : sub8 false false v r = compared r v := sub8_eq false false v r

/-! ### Opcodes of the register forms -/

theorem decodeOpcode_addAR : ∀ i, i ≠ .indHl →
    decodeOpcode .t0 (BitVec.ofNat 8 (0x80 + 8 * 0 + number i)) = some (.op (.addAR i)) :=
  R8.forall_register rfl rfl rfl rfl rfl rfl rfl

theorem decodeOpcode_subR : ∀ i, i ≠ .indHl →
    decodeOpcode .t0 (BitVec.ofNat 8 (0x80 + 8 * 2 + number i)) = some (.op (.subR i)) :=
  R8.forall_register rfl rfl rfl rfl rfl rfl rfl

theorem decodeOpcode_cpR : ∀ i, i ≠ .indHl →
    decodeOpcode .t0 (BitVec.ofNat 8 (0x80 + 8 * 7 + number i)) = some (.op (.cpR i)) :=
  R8.forall_register rfl rfl rfl rfl rfl rfl rfl

/-- Settles O10: the three forms run `Add8` without the carry. -/
theorem addToAccumulator : Obligations.AddToAccumulator := by
  unfold Obligations.AddToAccumulator
  exact accumulates_of_primitive (fun r v => add8_eq_added false v r) decodeOpcode_addAR rfl rfl
    (fun _ _ => rfl) (fun _ => rfl) (fun _ _ => rfl)

/-- Settles O12: the three forms run `Sub8` without the borrow. -/
theorem subtractFromAccumulator : Obligations.SubtractFromAccumulator := by
  unfold Obligations.SubtractFromAccumulator
  exact accumulates_of_primitive (fun r v => sub8_eq_subtracted false v r) decodeOpcode_subR rfl rfl
    (fun _ _ => rfl) (fun _ => rfl) (fun _ _ => rfl)

/-- Settles O15: the three forms run `Sub8` without the borrow and without the write of A. -/
theorem compareWithAccumulator : Obligations.CompareWithAccumulator := by
  unfold Obligations.CompareWithAccumulator
  exact accumulates_of_primitive (fun r v => sub8_eq_compared v r) decodeOpcode_cpR rfl rfl
    (fun _ _ => rfl) (fun _ => rfl) (fun _ _ => rfl)

/-! ## Logic (R95 to R97) -/

/-- A bitwise result in A, with the flags of a logic operation. -/
theorem setZNHC_eq_logical {op : Nat → Nat → Nat} {h : Bool} {r : RegFile} {v res : Byte}
    (hres : res.toNat = op r.a.toNat v.toNat) :
    { r with a := res }.setZNHC (decide (res = 0#8)) false h false = logical op h r v := by
  rw [RegFile.setZNHC_eq, decide_eq_zero, logical, ← hres, BitVec.ofNat_toNat, BitVec.setWidth_eq]

theorem and8_eq_logical (v : Byte) (r : RegFile) : and8 v r = logical Nat.land true r v :=
  setZNHC_eq_logical (BitVec.toNat_and r.a v)

theorem xor8_eq_logical (v : Byte) (r : RegFile) : xor8 v r = logical Nat.xor false r v :=
  setZNHC_eq_logical (BitVec.toNat_xor r.a v)

theorem or8_eq_logical (v : Byte) (r : RegFile) : or8 v r = logical Nat.lor false r v :=
  setZNHC_eq_logical (BitVec.toNat_or r.a v)

theorem decodeOpcode_andR : ∀ i, i ≠ .indHl →
    decodeOpcode .t0 (BitVec.ofNat 8 (0x80 + 8 * 4 + number i)) = some (.op (.andR i)) :=
  R8.forall_register rfl rfl rfl rfl rfl rfl rfl

theorem decodeOpcode_xorR : ∀ i, i ≠ .indHl →
    decodeOpcode .t0 (BitVec.ofNat 8 (0x80 + 8 * 5 + number i)) = some (.op (.xorR i)) :=
  R8.forall_register rfl rfl rfl rfl rfl rfl rfl

theorem decodeOpcode_orR : ∀ i, i ≠ .indHl →
    decodeOpcode .t0 (BitVec.ofNat 8 (0x80 + 8 * 6 + number i)) = some (.op (.orR i)) :=
  R8.forall_register rfl rfl rfl rfl rfl rfl rfl

/-- Settles O14: each of the three operations runs its primitive in three forms. -/
theorem logicOnAccumulator : Obligations.LogicOnAccumulator := by
  unfold Obligations.LogicOnAccumulator
  refine ⟨?and, ?xor, ?or⟩
  case and =>
    exact accumulates_of_primitive (fun r v => and8_eq_logical v r) decodeOpcode_andR rfl rfl
      (fun _ _ => rfl) (fun _ => rfl) (fun _ _ => rfl)
  case xor =>
    exact accumulates_of_primitive (fun r v => xor8_eq_logical v r) decodeOpcode_xorR rfl rfl
      (fun _ _ => rfl) (fun _ => rfl) (fun _ _ => rfl)
  case or =>
    exact accumulates_of_primitive (fun r v => or8_eq_logical v r) decodeOpcode_orR rfl rfl
      (fun _ _ => rfl) (fun _ => rfl) (fun _ _ => rfl)

/-! ## Increment and decrement (R93, R94) -/

theorem inc8_eq (x : Byte) (r : RegFile) :
    inc8 x r = (BitVec.ofNat 8 (x.toNat + 1), incrementFlags r x) := by
  have hval : x + 1 = BitVec.ofNat 8 (x.toNat + 1) := by bv_omega
  have hzero : decide (x + 1 = 0#8) = (x.toNat == 255) := decide_eq_decide.mpr (by bv_omega)
  rw [inc8, RegFile.setZ_setN_setH_eq, hzero, hval]
  rfl

theorem dec8_eq (x : Byte) (r : RegFile) :
    dec8 x r = (BitVec.ofNat 8 (x.toNat + 255), decrementFlags r x) := by
  have hval : x - 1 = BitVec.ofNat 8 (x.toNat + 255) := by bv_omega
  have hzero : decide (x - 1 = 0#8) = (x.toNat == 1) := decide_eq_decide.mpr (by bv_omega)
  rw [dec8, RegFile.setZ_setN_setH_eq, hzero, hval]
  rfl

theorem decodeOpcode_incR : ∀ i, i ≠ .indHl →
    decodeOpcode .t0 (BitVec.ofNat 8 (0x04 + 8 * number i)) = some (.op (.incR i)) :=
  R8.forall_register rfl rfl rfl rfl rfl rfl rfl

theorem decodeOpcode_decR : ∀ i, i ≠ .indHl →
    decodeOpcode .t0 (BitVec.ofNat 8 (0x05 + 8 * number i)) = some (.op (.decR i)) :=
  R8.forall_register rfl rfl rfl rfl rfl rfl rfl

/-- Settles O16: both operations run their primitive on the operand and write its byte back. -/
theorem incrementDecrement : Obligations.IncrementDecrement := by
  unfold Obligations.IncrementDecrement
  refine ⟨?increment, ?decrement⟩
  case increment =>
    exact replaces_of_primitive (fun r x => inc8_eq x r) decodeOpcode_incR rfl (fun _ _ => rfl) (fun _ => rfl)
  case decrement =>
    exact replaces_of_primitive (fun r x => dec8_eq x r) decodeOpcode_decR rfl (fun _ _ => rfl) (fun _ => rfl)

/-! ## `CPL`, `SCF`, `CCF` (R98, R111, R112) -/

theorem complement_eq_ofNat (x : Byte) : ~~~x = BitVec.ofNat 8 (255 - x.toNat) := by
  apply BitVec.eq_of_toNat_eq
  rw [BitVec.toNat_not, BitVec.toNat_ofNat]
  omega

theorem cpl_eq (r : RegFile) :
    cpl r = { r with a := BitVec.ofNat 8 (255 - r.a.toNat), f := flagByte (zOf r) true true (cOf r) } := by
  rw [cpl, RegFile.setN_setH_eq, complement_eq_ofNat]
  rfl

theorem scf_eq (r : RegFile) : scf r = { r with f := flagByte (zOf r) false false true } :=
  r.setN_setH_setC_eq false false true

theorem ccf_eq (r : RegFile) : ccf r = { r with f := flagByte (zOf r) false false (!cOf r) } := by
  rw [ccf, RegFile.setN_setH_setC_eq, RegFile.flagC_eq_cOf]

/-- The end of a handler that runs a primitive of the register file alone. -/
theorem ret_withRf_eq_done {prim : RegFile → RegFile} {r : RegFile} {s : State} (h : prim s.rf = r) :
    ret 0 (s.withRf prim) = done s r 0 := by
  rw [← h]
  rfl

/-- Settles O19: each runs its primitive of the register file alone. -/
theorem complementAndCarryFlag : Obligations.ComplementAndCarryFlag := by
  unfold Obligations.ComplementAndCarryFlag
  refine ⟨?complement, ?set, ?invert⟩
  case complement => exact ⟨runs_of_decodeOpcode rfl, fun s => ret_withRf_eq_done (cpl_eq s.rf)⟩
  case set => exact ⟨runs_of_decodeOpcode rfl, fun s => ret_withRf_eq_done (scf_eq s.rf)⟩
  case invert => exact ⟨runs_of_decodeOpcode rfl, fun s => ret_withRf_eq_done (ccf_eq s.rf)⟩

end Sys2Proof.Machine

/-! # Proofs: 16-bit arithmetic (45_alu16.md)

Each handler changes the register file alone: its change in the arithmetic of the statements, then its opcodes. -/

namespace Sys2Proof.Machine

open Sys2Proof.Spec

theorem RegFile.get16_r16Id (p : R16) (r : RegFile) : r.get16 (r16Id p) = pair r p := by
  cases p with
  | bc => exact mk16_eq_word r.b r.c
  | de => exact mk16_eq_word r.d r.e
  | hl => exact mk16_eq_word r.h r.l
  | sp => rfl

/-! ## `ADD HL,rr` (R220; 40_primitives.md R109) -/

/-- Z is read after HL is written, which leaves F as it was. -/
theorem add16_eq (v : Word) (r : RegFile) :
    add16 v r =
      withPair { r with f := pairSumFlags r v } .hl (BitVec.ofNat 16 ((hl r).toNat + v.toNat)) := by
  simp only [add16, RegFile.setN_setH_setC_eq, RegFile.setHl_eq, RegFile.hl_eq]
  rfl

theorem decodeOpcode_addHlRr (p : R16) :
    decodeOpcode .t0 (BitVec.ofNat 8 (0x09 + 16 * pairNumber p)) = some (.op (.addHlRr p)) := by
  cases p <;> rfl

theorem exec_addHlRr (p : R16) (s : State) :
    exec (.addHlRr p) s =
      done s
        (withPair { s.rf with f := pairSumFlags s.rf (pair s.rf p) } .hl
          (BitVec.ofNat 16 ((hl s.rf).toNat + (pair s.rf p).toNat))) 0 := by
  change execAddHlRr p s = _
  rw [execAddHlRr, RegFile.get16_r16Id]
  exact ret_withRf_eq_done (add16_eq _ _)

/-- Settles O20: the handler runs `Add16` of the pair. -/
theorem addPairToHl : Obligations.AddPairToHl := by
  unfold Obligations.AddPairToHl
  exact fun p => ⟨runs_of_decodeOpcode (decodeOpcode_addHlRr p), exec_addHlRr p⟩

/-! ## `INC rr` and `DEC rr` (R221, R222; 40_primitives.md R114) -/

theorem decodeOpcode_incRr (p : R16) :
    decodeOpcode .t0 (BitVec.ofNat 8 (0x03 + 16 * pairNumber p)) = some (.op (.incRr p)) := by
  cases p <;> rfl

theorem decodeOpcode_decRr (p : R16) :
    decodeOpcode .t0 (BitVec.ofNat 8 (0x0B + 16 * pairNumber p)) = some (.op (.decRr p)) := by
  cases p <;> rfl

theorem exec_incRr (p : R16) (s : State) :
    exec (.incRr p) s = done s (withPair s.rf p (BitVec.ofNat 16 ((pair s.rf p).toNat + 1))) 0 := by
  change execIncRr p s = _
  rw [execIncRr, RegFile.get16_r16Id, inc16_eq_ofNat]
  exact ret_withRf_eq_done (RegFile.set16_r16Id p _ s.rf)

theorem exec_decRr (p : R16) (s : State) :
    exec (.decRr p) s = done s (withPair s.rf p (BitVec.ofNat 16 ((pair s.rf p).toNat + 65535))) 0 := by
  change execDecRr p s = _
  rw [execDecRr, RegFile.get16_r16Id, dec16_eq_ofNat]
  exact ret_withRf_eq_done (RegFile.set16_r16Id p _ s.rf)

/-- Settles O21: the pair is read, stepped and written back; F is no part of a pair. -/
theorem incrementDecrementPair : Obligations.IncrementDecrementPair := by
  unfold Obligations.IncrementDecrementPair
  intro p
  refine ⟨?increment, ?decrement⟩
  case increment => exact ⟨runs_of_decodeOpcode (decodeOpcode_incRr p), exec_incRr p⟩
  case decrement => exact ⟨runs_of_decodeOpcode (decodeOpcode_decRr p), exec_decRr p⟩

end Sys2Proof.Machine

/-! # Proofs: rotates, shifts and bits (46_rotate_shift_bit.md)

Each primitive as the arithmetic of the statements, then each operation as its forms over the primitive. -/

namespace Sys2Proof.Machine

open Sys2Proof.Spec

/-! ## Single bits of a byte as numbers (00_scope.md R5) -/

theorem toNat_bitByte (v : Bool) : (bitByte v).toNat = v.toNat := by
  cases v <;> rfl

theorem toNat_getLsbD (x : Byte) (i : Nat) : (x.getLsbD i).toNat = x.toNat / 2 ^ i % 2 := by
  rw [← BitVec.testBit_toNat, Nat.toNat_testBit]

theorem not_getLsbD_eq_div_mod (x : Byte) (i : Nat) : (!x.getLsbD i) = (x.toNat / 2 ^ i % 2 == 0) := by
  rw [← toNat_getLsbD]
  cases x.getLsbD i <;> rfl

theorem getLsbD_zero_eq (x : Byte) : x.getLsbD 0 = (x.toNat % 2 == 1) := by
  rw [getLsbD_eq_div_mod, Nat.pow_zero, Nat.div_one]

/-- The top bit needs no remainder: the quotient is 0 or 1. -/
theorem div_128_mod_two (x : Byte) : x.toNat / 2 ^ 7 % 2 = x.toNat / 128 := by
  have hx := x.isLt
  omega

theorem getLsbD_seven_eq (x : Byte) : x.getLsbD 7 = (x.toNat / 128 == 1) := by
  rw [getLsbD_eq_div_mod, div_128_mod_two]

/-! ## The shifted bytes as numbers (40_primitives.md R100 to R107)

A byte shifted by `i` and a byte below `2 ^ i` share no bit, so their bitwise or is their sum. -/

theorem toNat_or_of_multiple {x y : Byte} {i q : Nat} (hx : x.toNat = 2 ^ i * q) (hy : y.toNat < 2 ^ i) :
    (x ||| y).toNat = x.toNat + y.toNat := by
  rw [BitVec.toNat_or, hx, Nat.two_pow_add_eq_or_of_lt hy]

theorem toNat_shiftLeft_one (x : Byte) : (x <<< 1).toNat = x.toNat * 2 % 256 := by
  rw [BitVec.toNat_shiftLeft, Nat.shiftLeft_eq]

theorem toNat_ushiftRight_one (x : Byte) : (x >>> 1).toNat = x.toNat / 2 := by
  rw [BitVec.toNat_ushiftRight, Nat.shiftRight_eq_div_pow]

theorem toNat_bitByte_shiftLeft_seven (v : Bool) : (bitByte v <<< 7).toNat = 128 * v.toNat := by
  cases v <;> rfl

/-- Left by one, with a bit that enters at bit 0. -/
theorem toNat_shiftLeft_or_bitByte (x : Byte) (v : Bool) :
    ((x <<< 1) ||| bitByte v).toNat = x.toNat * 2 % 256 + v.toNat := by
  have heven : (x <<< 1).toNat = 2 ^ 1 * (x.toNat % 128) := by rw [toNat_shiftLeft_one]; omega
  have hbit : (bitByte v).toNat < 2 ^ 1 := by rw [toNat_bitByte]; exact v.toNat_lt
  rw [toNat_or_of_multiple heven hbit, toNat_shiftLeft_one, toNat_bitByte]

/-- Right by one, with a bit that enters at bit 7. -/
theorem toNat_ushiftRight_or_bitByte (x : Byte) (v : Bool) :
    ((x >>> 1) ||| (bitByte v <<< 7)).toNat = x.toNat / 2 + 128 * v.toNat := by
  have hlow : (x >>> 1).toNat < 2 ^ 7 := by rw [toNat_ushiftRight_one]; omega
  rw [BitVec.or_comm, toNat_or_of_multiple (toNat_bitByte_shiftLeft_seven v) hlow, toNat_bitByte_shiftLeft_seven,
    toNat_ushiftRight_one, Nat.add_comm]

/-- The kept sign bit of `SRA` is a bit that enters at bit 7. -/
theorem and_0x80_eq_bitByte (x : Byte) : x &&& 0x80#8 = bitByte (x.getLsbD 7) <<< 7 := by
  change x &&& BitVec.twoPow 8 7 = _
  rw [BitVec.and_twoPow]
  cases x.getLsbD 7 <;> rfl

theorem toNat_nibbles_exchanged (x : Byte) :
    ((x <<< 4) ||| (x >>> 4)).toNat = x.toNat % 16 * 16 + x.toNat / 16 := by
  have hleft : (x <<< 4).toNat = 2 ^ 4 * (x.toNat % 16) := by
    rw [BitVec.toNat_shiftLeft, Nat.shiftLeft_eq]
    omega
  have hright : (x >>> 4).toNat = x.toNat / 16 := by rw [BitVec.toNat_ushiftRight, Nat.shiftRight_eq_div_pow]
  rw [toNat_or_of_multiple hleft (by omega), hleft, hright]
  omega

/-! ## The primitives (R100 to R107) -/

/-- A primitive is one of the statements' shifts where its byte and the bit that goes to C are. -/
theorem shiftFlags_eq_shifted {g : Shift} {x y : Byte} {out : Bool} {r : RegFile}
    (hy : y.toNat = (g (cOf r) x.toNat).1) (hout : out = (g (cOf r) x.toNat).2) (setZ : Bool) :
    (y, shiftFlags out y setZ r) = (shifted g r x, shiftedFlags g setZ r x) := by
  rw [shiftFlags, RegFile.setZNHC_eq, decide_eq_zero, Bool.and_comm, shifted, shiftedFlags, ← hy, ← hout,
    BitVec.ofNat_toNat, BitVec.setWidth_eq]

theorem rlc_eq (setZ : Bool) (x : Byte) (r : RegFile) :
    rlc setZ x r = (shifted rotateLeft r x, shiftedFlags rotateLeft setZ r x) :=
  shiftFlags_eq_shifted (by rw [toNat_shiftLeft_or_bitByte, toNat_getLsbD, div_128_mod_two]; rfl)
    (getLsbD_seven_eq x) setZ

theorem rl_eq (setZ : Bool) (x : Byte) (r : RegFile) :
    rl setZ x r = (shifted rotateLeftCarry r x, shiftedFlags rotateLeftCarry setZ r x) :=
  shiftFlags_eq_shifted (by rw [toNat_shiftLeft_or_bitByte, RegFile.flagC_eq_cOf]; rfl) (getLsbD_seven_eq x) setZ

theorem rrc_eq (setZ : Bool) (x : Byte) (r : RegFile) :
    rrc setZ x r = (shifted rotateRight r x, shiftedFlags rotateRight setZ r x) :=
  shiftFlags_eq_shifted (by rw [toNat_ushiftRight_or_bitByte, toNat_getLsbD, Nat.pow_zero, Nat.div_one]; rfl)
    (getLsbD_zero_eq x) setZ

theorem rr_eq (setZ : Bool) (x : Byte) (r : RegFile) :
    rr setZ x r = (shifted rotateRightCarry r x, shiftedFlags rotateRightCarry setZ r x) :=
  shiftFlags_eq_shifted (by rw [toNat_ushiftRight_or_bitByte, RegFile.flagC_eq_cOf]; rfl) (getLsbD_zero_eq x) setZ

theorem sla_eq (x : Byte) (r : RegFile) : sla x r = (shifted shiftLeft r x, shiftedFlags shiftLeft true r x) :=
  shiftFlags_eq_shifted (toNat_shiftLeft_one x) (getLsbD_seven_eq x) true

theorem sra_eq (x : Byte) (r : RegFile) :
    sra x r = (shifted shiftRightSigned r x, shiftedFlags shiftRightSigned true r x) :=
  shiftFlags_eq_shifted
    (by rw [and_0x80_eq_bitByte, toNat_ushiftRight_or_bitByte, toNat_getLsbD, div_128_mod_two]; rfl)
    (getLsbD_zero_eq x) true

theorem srl_eq (x : Byte) (r : RegFile) : srl x r = (shifted shiftRight r x, shiftedFlags shiftRight true r x) :=
  shiftFlags_eq_shifted (toNat_ushiftRight_one x) (getLsbD_zero_eq x) true

theorem swap_eq (x : Byte) (r : RegFile) :
    swap x r = (shifted swapNibbles r x, shiftedFlags swapNibbles true r x) :=
  shiftFlags_eq_shifted (g := swapNibbles) (toNat_nibbles_exchanged x) rfl true

/-! ## Rotates (R230 to R241) -/

theorem modA_eq_done {prim : Byte → RegFile → Byte × RegFile} {s : State} {v : Byte} {r : RegFile}
    (h : prim s.rf.a s.rf = (v, r)) : modA prim s = done s { r with a := v } 0 := by
  rw [modA, h]
  rfl

theorem decodeOpcode_rlcR : ∀ i, i ≠ .indHl →
    decodeOpcode .t1 (BitVec.ofNat 8 (8 * 0 + 1 * number i)) = some (.op (.rlcR i)) :=
  R8.forall_register rfl rfl rfl rfl rfl rfl rfl

theorem decodeOpcode_rrcR : ∀ i, i ≠ .indHl →
    decodeOpcode .t1 (BitVec.ofNat 8 (8 * 1 + 1 * number i)) = some (.op (.rrcR i)) :=
  R8.forall_register rfl rfl rfl rfl rfl rfl rfl

theorem decodeOpcode_rlR : ∀ i, i ≠ .indHl →
    decodeOpcode .t1 (BitVec.ofNat 8 (8 * 2 + 1 * number i)) = some (.op (.rlR i)) :=
  R8.forall_register rfl rfl rfl rfl rfl rfl rfl

theorem decodeOpcode_rrR : ∀ i, i ≠ .indHl →
    decodeOpcode .t1 (BitVec.ofNat 8 (8 * 3 + 1 * number i)) = some (.op (.rrR i)) :=
  R8.forall_register rfl rfl rfl rfl rfl rfl rfl

/-- Settles O22: the accumulator forms run the rotate on A without Z, the others on their operand with Z. -/
theorem rotateResults : Obligations.RotateResults := by
  unfold Obligations.RotateResults
  refine ⟨?rlca, ?rrca, ?rla, ?rra, ?rlc, ?rrc, ?rl, ?rr⟩
  case rlca => exact ⟨runs_of_decodeOpcode rfl, fun s => modA_eq_done (rlc_eq false s.rf.a s.rf)⟩
  case rrca => exact ⟨runs_of_decodeOpcode rfl, fun s => modA_eq_done (rrc_eq false s.rf.a s.rf)⟩
  case rla => exact ⟨runs_of_decodeOpcode rfl, fun s => modA_eq_done (rl_eq false s.rf.a s.rf)⟩
  case rra => exact ⟨runs_of_decodeOpcode rfl, fun s => modA_eq_done (rr_eq false s.rf.a s.rf)⟩
  case rlc =>
    exact replaces_of_primitive (fun r x => rlc_eq true x r) decodeOpcode_rlcR rfl (fun _ _ => rfl) (fun _ => rfl)
  case rrc =>
    exact replaces_of_primitive (fun r x => rrc_eq true x r) decodeOpcode_rrcR rfl (fun _ _ => rfl) (fun _ => rfl)
  case rl =>
    exact replaces_of_primitive (fun r x => rl_eq true x r) decodeOpcode_rlR rfl (fun _ _ => rfl) (fun _ => rfl)
  case rr =>
    exact replaces_of_primitive (fun r x => rr_eq true x r) decodeOpcode_rrR rfl (fun _ _ => rfl) (fun _ => rfl)

/-! ## Shifts and swap (R242 to R249) -/

theorem decodeOpcode_slaR : ∀ i, i ≠ .indHl →
    decodeOpcode .t1 (BitVec.ofNat 8 (8 * 4 + 1 * number i)) = some (.op (.slaR i)) :=
  R8.forall_register rfl rfl rfl rfl rfl rfl rfl

theorem decodeOpcode_sraR : ∀ i, i ≠ .indHl →
    decodeOpcode .t1 (BitVec.ofNat 8 (8 * 5 + 1 * number i)) = some (.op (.sraR i)) :=
  R8.forall_register rfl rfl rfl rfl rfl rfl rfl

theorem decodeOpcode_swapR : ∀ i, i ≠ .indHl →
    decodeOpcode .t1 (BitVec.ofNat 8 (8 * 6 + 1 * number i)) = some (.op (.swapR i)) :=
  R8.forall_register rfl rfl rfl rfl rfl rfl rfl

theorem decodeOpcode_srlR : ∀ i, i ≠ .indHl →
    decodeOpcode .t1 (BitVec.ofNat 8 (8 * 7 + 1 * number i)) = some (.op (.srlR i)) :=
  R8.forall_register rfl rfl rfl rfl rfl rfl rfl

/-- Settles O23: each of the four operations runs its primitive on the operand and writes its byte back. -/
theorem shiftsAndSwap : Obligations.ShiftsAndSwap := by
  unfold Obligations.ShiftsAndSwap
  refine ⟨?sla, ?sra, ?swap, ?srl⟩
  case sla => exact replaces_of_primitive (fun r x => sla_eq x r) decodeOpcode_slaR rfl (fun _ _ => rfl) (fun _ => rfl)
  case sra => exact replaces_of_primitive (fun r x => sra_eq x r) decodeOpcode_sraR rfl (fun _ _ => rfl) (fun _ => rfl)
  case swap =>
    exact replaces_of_primitive (fun r x => swap_eq x r) decodeOpcode_swapR rfl (fun _ _ => rfl) (fun _ => rfl)
  case srl => exact replaces_of_primitive (fun r x => srl_eq x r) decodeOpcode_srlR rfl (fun _ _ => rfl) (fun _ => rfl)

/-! ## The bit number operand (30_encoding.md R74) -/

/-- What holds of the eight bit numbers holds of every one. -/
theorem forall_bitNumber {p : BitVec 3 → Prop} (h0 : p 0#3) (h1 : p 1#3) (h2 : p 2#3) (h3 : p 3#3) (h4 : p 4#3)
    (h5 : p 5#3) (h6 : p 6#3) (h7 : p 7#3) (b : BitVec 3) : p b := by
  obtain ⟨n, hn⟩ := b
  interval_cases n <;> assumption

/-! ## `BIT b` (R250, R251; 40_primitives.md R99) -/

theorem testBit_eq (b : BitVec 3) (x : Byte) (r : RegFile) :
    testBit b x r = { r with f := flagByte (x.toNat / 2 ^ b.toNat % 2 == 0) false true (cOf r) } := by
  rw [testBit, RegFile.setZ_setN_setH_eq, not_getLsbD_eq_div_mod]

theorem decodeOpcode_bitR (b : BitVec 3) : ∀ i, i ≠ .indHl →
    decodeOpcode .t1 (BitVec.ofNat 8 (0x40 + 8 * b.toNat + number i)) = some (.op (.bitR b i)) := by
  revert b
  apply forall_bitNumber <;> exact R8.forall_register rfl rfl rfl rfl rfl rfl rfl

theorem decodeOpcode_bitIndHl :
    ∀ b : BitVec 3, decodeOpcode .t1 (BitVec.ofNat 8 (0x46 + 8 * b.toNat)) = some (.op (.bitIndHl b)) :=
  forall_bitNumber rfl rfl rfl rfl rfl rfl rfl rfl

/-- Settles O24: both forms run `TestBit` of the operand, which writes Z, N and H only. -/
theorem bitTest : Obligations.BitTest := by
  unfold Obligations.BitTest
  intro b
  refine ⟨fun i hi => ⟨runs_of_decodeOpcode (decodeOpcode_bitR b i hi), fun s => ?reg⟩,
    runs_of_decodeOpcode (decodeOpcode_bitIndHl b), fun s => ?indHl⟩
  case reg => exact (accR8_eq_done hi (testBit b) s).trans (by rw [testBit_eq])
  case indHl => exact (accIndHl_eq_done (testBit b) s).trans (by rw [testBit_eq])

/-! ## `RES b` and `SET b` (R252 to R255; 40_primitives.md R113) -/

theorem toNat_bitMask (b : BitVec 3) : (1#8 <<< b.toNat).toNat = 2 ^ b.toNat := by
  rw [← BitVec.twoPow_eq, BitVec.toNat_twoPow_of_lt b.isLt]

/-- Bit `b` alone, in place. -/
theorem toNat_and_bitMask (b : BitVec 3) (x : Byte) :
    (x &&& 1#8 <<< b.toNat).toNat = x.toNat / 2 ^ b.toNat % 2 * 2 ^ b.toNat := by
  rw [BitVec.toNat_and, toNat_bitMask, Nat.and_two_pow, Nat.toNat_testBit]

theorem resBit_and_bitMask (b : BitVec 3) (x : Byte) : resBit b x &&& 1#8 <<< b.toNat = 0#8 := by
  rw [resBit, BitVec.and_assoc, BitVec.and_comm (~~~_), BitVec.and_not_self, BitVec.ofNat_eq_ofNat, BitVec.and_zero]

theorem toNat_or_of_and_eq_zero {x y : Byte} (h : x &&& y = 0#8) : (x ||| y).toNat = x.toNat + y.toNat := by
  rw [← BitVec.add_eq_or_of_and_eq_zero x y h, BitVec.toNat_add_of_and_eq_zero h]

/-- A byte is its bits without bit `b`, plus bit `b` in place. -/
theorem toNat_resBit_add (b : BitVec 3) (x : Byte) :
    (resBit b x).toNat + x.toNat / 2 ^ b.toNat % 2 * 2 ^ b.toNat = x.toNat := by
  have hsplit : resBit b x ||| (x &&& 1#8 <<< b.toNat) = x := by
    rw [resBit, ← BitVec.and_or_distrib_left, BitVec.not_or_self, BitVec.and_allOnes]
  have hdisjoint : resBit b x &&& (x &&& 1#8 <<< b.toNat) = 0#8 := by
    rw [BitVec.and_comm x, ← BitVec.and_assoc, resBit_and_bitMask, BitVec.zero_and]
  rw [← toNat_and_bitMask, ← toNat_or_of_and_eq_zero hdisjoint, hsplit]

theorem resBit_eq (b : BitVec 3) (x : Byte) :
    resBit b x = BitVec.ofNat 8 (x.toNat - x.toNat / 2 ^ b.toNat % 2 * 2 ^ b.toNat) := by
  rw [← Nat.eq_sub_of_add_eq (toNat_resBit_add b x), BitVec.ofNat_toNat, BitVec.setWidth_eq]

/-- Bit `b` is put into the byte without it. -/
theorem toNat_setBit (b : BitVec 3) (x : Byte) : (setBit b x).toNat = (resBit b x).toNat + 2 ^ b.toNat := by
  have hsplit : setBit b x = resBit b x ||| 1#8 <<< b.toNat := by
    ext i
    simp only [setBit, resBit, BitVec.getElem_or, BitVec.getElem_and, BitVec.getElem_not]
    cases (1#8 <<< b.toNat)[i] <;> simp
  rw [hsplit, toNat_or_of_and_eq_zero (resBit_and_bitMask b x), toNat_bitMask]

theorem setBit_eq (b : BitVec 3) (x : Byte) :
    setBit b x = BitVec.ofNat 8 (x.toNat + (1 - x.toNat / 2 ^ b.toNat % 2) * 2 ^ b.toNat) := by
  have hsum : (setBit b x).toNat = x.toNat + (1 - x.toNat / 2 ^ b.toNat % 2) * 2 ^ b.toNat := by
    have hres := toNat_resBit_add b x
    rw [toNat_setBit]
    obtain hbit | hbit := Nat.mod_two_eq_zero_or_one (x.toNat / 2 ^ b.toNat) <;> rw [hbit] at hres ⊢ <;> omega
  rw [← hsum, BitVec.ofNat_toNat, BitVec.setWidth_eq]

theorem decodeOpcode_resR (b : BitVec 3) : ∀ i, i ≠ .indHl →
    decodeOpcode .t1 (BitVec.ofNat 8 (0x80 + 8 * b.toNat + 1 * number i)) = some (.op (.resR b i)) := by
  revert b
  apply forall_bitNumber <;> exact R8.forall_register rfl rfl rfl rfl rfl rfl rfl

theorem decodeOpcode_resIndHl :
    ∀ b : BitVec 3, decodeOpcode .t1 (BitVec.ofNat 8 (0x80 + 8 * b.toNat + 1 * 6)) = some (.op (.resIndHl b)) :=
  forall_bitNumber rfl rfl rfl rfl rfl rfl rfl rfl

theorem decodeOpcode_setR (b : BitVec 3) : ∀ i, i ≠ .indHl →
    decodeOpcode .t1 (BitVec.ofNat 8 (0xC0 + 8 * b.toNat + 1 * number i)) = some (.op (.setR b i)) := by
  revert b
  apply forall_bitNumber <;> exact R8.forall_register rfl rfl rfl rfl rfl rfl rfl

theorem decodeOpcode_setIndHl :
    ∀ b : BitVec 3, decodeOpcode .t1 (BitVec.ofNat 8 (0xC0 + 8 * b.toNat + 1 * 6)) = some (.op (.setIndHl b)) :=
  forall_bitNumber rfl rfl rfl rfl rfl rfl rfl rfl

/-- Settles O25: both operations write their byte back to the operand and hand on the register file, F with it. -/
theorem bitResetSet : Obligations.BitResetSet := by
  unfold Obligations.BitResetSet
  intro b
  refine ⟨?reset, ?set⟩
  case reset =>
    exact replaces_of_primitive (fun r x => congrArg (·, r) (resBit_eq b x)) (decodeOpcode_resR b)
      (decodeOpcode_resIndHl b) (fun _ _ => rfl) (fun _ => rfl)
  case set =>
    exact replaces_of_primitive (fun r x => congrArg (·, r) (setBit_eq b x)) (decodeOpcode_setR b)
      (decodeOpcode_setIndHl b) (fun _ _ => rfl) (fun _ => rfl)

end Sys2Proof.Machine

/-! # Proofs: addition with carry, subtraction with borrow, decimal adjust (44_alu8.md R183 to R191, R208) -/

namespace Sys2Proof.Machine

open Sys2Proof.Spec

theorem decodeOpcode_adcAR : ∀ i, i ≠ .indHl →
    decodeOpcode .t0 (BitVec.ofNat 8 (0x80 + 8 * 1 + number i)) = some (.op (.adcAR i)) :=
  R8.forall_register rfl rfl rfl rfl rfl rfl rfl

theorem decodeOpcode_sbcAR : ∀ i, i ≠ .indHl →
    decodeOpcode .t0 (BitVec.ofNat 8 (0x80 + 8 * 3 + number i)) = some (.op (.sbcAR i)) :=
  R8.forall_register rfl rfl rfl rfl rfl rfl rfl

/-- Settles O11: the three forms run `Add8` with the carry as its third addend. -/
theorem addWithCarry : Obligations.AddWithCarry := by
  unfold Obligations.AddWithCarry
  exact accumulates_of_primitive (fun r v => add8_eq_added true v r) decodeOpcode_adcAR rfl rfl
    (fun _ _ => rfl) (fun _ => rfl) (fun _ _ => rfl)

/-- Settles O13: the three forms run `Sub8` with the borrow as its third term. -/
theorem subtractWithBorrow : Obligations.SubtractWithBorrow := by
  unfold Obligations.SubtractWithBorrow
  exact accumulates_of_primitive (fun r v => sub8_eq_subtracted true v r) decodeOpcode_sbcAR rfl rfl
    (fun _ _ => rfl) (fun _ => rfl) (fun _ _ => rfl)

/-! ## `DAA` (R208; 40_primitives.md R108) -/

/-- Z, H and C written, N as it was. -/
theorem RegFile.setZ_setH_setC_eq (z h c : Bool) (r : RegFile) :
    ((r.setZ z).setH h).setC c = { r with f := flagByte z (nOf r) h c } :=
  setFlag_eq_of_flags ((flagZ_setC c _).trans ((flagZ_setH h _).trans (flagZ_setZ z r)))
    ((flagN_setC c _).trans ((flagN_setH h _).trans ((flagN_setZ z r).trans r.flagN_eq_nOf)))
    ((flagH_setC c _).trans (flagH_setH h _)) (flagC_setC c _)

/-- The two corrections share no bit, so their bitwise or is their sum. -/
theorem toNat_corrections (low high : Bool) :
    ((if low then 0x06#8 else 0#8) ||| (if high then 0x60#8 else 0#8)).toNat =
      (if low then 6 else 0) + (if high then 0x60 else 0) := by
  cases low <;> cases high <;> rfl

/-- A corrected down, lifted by 256 so that it is no less than 0, or up. -/
theorem corrected_eq_ofNat (down low high : Bool) (a : Byte) :
    (if down then a - ((if low then 0x06#8 else 0#8) ||| (if high then 0x60#8 else 0#8))
      else a + ((if low then 0x06#8 else 0#8) ||| (if high then 0x60#8 else 0#8))) =
    BitVec.ofNat 8 (if down then 256 + a.toNat - (if low then 6 else 0) - (if high then 0x60 else 0)
      else a.toNat + (if low then 6 else 0) + (if high then 0x60 else 0)) := by
  have hsum := toNat_corrections low high
  have hsix : (if low then 6 else 0) ≤ 6 := by split <;> omega
  have hsixty : (if high then 0x60 else 0) ≤ 0x60 := by split <;> omega
  apply BitVec.eq_of_toNat_eq
  cases down with
  | false => rw [if_neg Bool.false_ne_true, if_neg Bool.false_ne_true, BitVec.toNat_add, hsum, BitVec.toNat_ofNat, Nat.add_assoc]
  | true =>
    rw [if_pos rfl, if_pos rfl, BitVec.toNat_sub, hsum, BitVec.toNat_ofNat]
    omega

theorem daa_eq_adjusted (r : RegFile) : daa r = adjusted r := by
  simp only [daa, corrected_eq_ofNat, decide_ofNat_eq_zero, RegFile.setZ_setH_setC_eq, RegFile.flagN_eq_nOf,
    RegFile.flagH_eq_hOf, RegFile.flagC_eq_cOf]
  rfl

/-- Settles O17: the handler runs `Daa` of the register file alone. -/
theorem decimalAdjust : Obligations.DecimalAdjust := by
  unfold Obligations.DecimalAdjust
  exact ⟨runs_of_decodeOpcode rfl, fun s => ret_withRf_eq_done (daa_eq_adjusted s.rf)⟩

end Sys2Proof.Machine

/-! # Proofs: control transfer, NOP and the faults (47_control.md, 48_system.md) -/

namespace Sys2Proof.Machine

open Sys2Proof.Spec

theorem RegFile.cond_eq_holds (r : RegFile) (cc : Cond) : r.cond cc = holds r cc := by
  cases cc with
  | nz => exact congrArg (!·) r.flagZ_eq_zOf
  | z => exact r.flagZ_eq_zOf
  | nc => exact congrArg (!·) r.flagC_eq_cOf
  | c => exact r.flagC_eq_cOf

/-! ## Opcodes of the conditional forms and of `RST t` -/

theorem decodeOpcode_jpCcA16 (cc : Cond) :
    decodeOpcode .t0 (BitVec.ofNat 8 (0xC2 + 8 * conditionNumber cc)) = some (.imm16 (.jpCcA16 cc)) := by
  cases cc <;> rfl

theorem decodeOpcode_jrCcE8 (cc : Cond) :
    decodeOpcode .t0 (BitVec.ofNat 8 (0x20 + 8 * conditionNumber cc)) = some (.imm8 (.jrCcE8 cc)) := by
  cases cc <;> rfl

theorem decodeOpcode_callCcA16 (cc : Cond) :
    decodeOpcode .t0 (BitVec.ofNat 8 (0xC4 + 8 * conditionNumber cc)) = some (.imm16 (.callCcA16 cc)) := by
  cases cc <;> rfl

theorem decodeOpcode_retCc (cc : Cond) :
    decodeOpcode .t0 (BitVec.ofNat 8 (0xC0 + 8 * conditionNumber cc)) = some (.op (.retCc cc)) := by
  cases cc <;> rfl

theorem decodeOpcode_rstT :
    ∀ t : BitVec 3, decodeOpcode .t0 (BitVec.ofNat 8 (0xC7 + 8 * t.toNat)) = some (.op (.rstT t)) :=
  forall_bitNumber rfl rfl rfl rfl rfl rfl rfl rfl

/-! ## Jumps (R270 to R274) -/

/-- A jump changes PC alone. -/
theorem ret_setPc_eq_done (n : Nat) {v w : Word} (hvw : v = w) (s : State) :
    ret n (s.setPc v) = done s { s.rf with pc := w } n := by
  rw [hvw]
  rfl

theorem exec_jpCcA16 (cc : Cond) (a : Word) (s : State) :
    exec (.jpCcA16 cc a) s = if holds s.rf cc then done s { s.rf with pc := a } 4 else done s s.rf 0 := by
  rw [← RegFile.cond_eq_holds]
  rfl

theorem exec_jrCcE8 (cc : Cond) (e : Byte) (s : State) :
    exec (.jrCcE8 cc e) s =
      if holds s.rf cc then done s { s.rf with pc := displaced s.rf.pc e } 4 else done s s.rf 0 := by
  rw [← RegFile.cond_eq_holds, ← addDisp_eq_displaced]
  rfl

/-- Settles O26: a jump writes PC, a conditional one where its condition holds. -/
theorem jumpTargets : Obligations.JumpTargets := by
  unfold Obligations.JumpTargets
  refine ⟨?absolute, ?absoluteCond, ?indirect, ?relative, ?relativeCond⟩
  case absolute => exact ⟨runs16_of_decodeOpcode rfl, fun s _ => ret_setPc_eq_done 0 rfl s⟩
  case absoluteCond =>
    exact fun cc => ⟨runs16_of_decodeOpcode (decodeOpcode_jpCcA16 cc), fun s a => exec_jpCcA16 cc a s⟩
  case indirect => exact ⟨runs_of_decodeOpcode rfl, fun s => ret_setPc_eq_done 0 s.rf.hl_eq s⟩
  case relative =>
    exact ⟨runs8_of_decodeOpcode rfl, fun s e => ret_setPc_eq_done 0 (addDisp_eq_displaced s.rf.pc e) s⟩
  case relativeCond =>
    exact fun cc => ⟨runs8_of_decodeOpcode (decodeOpcode_jrCcE8 cc), fun s e => exec_jrCcE8 cc e s⟩

/-! ## Calls and returns (R275 to R280) -/

/-- A push of PC and a jump. -/
theorem ret_push16_setPc_eq_called (n : Nat) {v w : Word} (hvw : v = w) (s : State) :
    ret n ((s.push16 s.rf.pc).setPc v) = called s w n := by
  rw [State.push16_eq_afterWrite, hvw]
  rfl

/-- A pop into PC. -/
theorem ret_pop16_setPc_eq_returned (n : Nat) (s : State) :
    ret n (s.pop16.2.setPc s.pop16.1) = returned s n := by
  rw [State.pop16_eq_afterRead]
  rfl

theorem exec_callCcA16 (cc : Cond) (a : Word) (s : State) :
    exec (.callCcA16 cc a) s = if holds s.rf cc then called s a 12 else done s s.rf 0 := by
  rw [← RegFile.cond_eq_holds, ← ret_push16_setPc_eq_called 12 rfl s]
  rfl

theorem exec_retCc (cc : Cond) (s : State) :
    exec (.retCc cc) s = if holds s.rf cc then returned s 12 else done s s.rf 0 := by
  rw [← RegFile.cond_eq_holds, ← ret_pop16_setPc_eq_returned]
  rfl

/-- Settles O27: a call is a push of PC and a jump. -/
theorem callPushesReturnAddress : Obligations.CallPushesReturnAddress := by
  unfold Obligations.CallPushesReturnAddress
  refine ⟨?call, ?callCond, ?restart⟩
  case call => exact ⟨runs16_of_decodeOpcode rfl, fun s _ => ret_push16_setPc_eq_called 0 rfl s⟩
  case callCond =>
    exact fun cc => ⟨runs16_of_decodeOpcode (decodeOpcode_callCcA16 cc), fun s a => exec_callCcA16 cc a s⟩
  case restart =>
    exact fun t => ⟨runs_of_decodeOpcode (decodeOpcode_rstT t),
      fun s => ret_push16_setPc_eq_called 0 (congrArg _ (Nat.mul_comm t.toNat 8)) s⟩

/-- Settles O28: a return is a pop into PC. -/
theorem returnReadsStack : Obligations.ReturnReadsStack := by
  unfold Obligations.ReturnReadsStack
  refine ⟨?ret, ?retCond⟩
  case ret => exact ⟨runs_of_decodeOpcode rfl, fun s => ret_pop16_setPc_eq_returned 0 s⟩
  case retCond => exact fun cc => ⟨runs_of_decodeOpcode (decodeOpcode_retCc cc), exec_retCc cc⟩

/-! ## NOP and the faults (R290 to R296) -/

/-- A stub: its opcode decodes to it, and all it does is the raise. -/
theorem faults_of_raise {op : Nat} {i : Instr}
    (hop : decodeOpcode .t0 (BitVec.ofNat 8 op) = some (.op i))
    (hexec : ∀ s, exec i s = raise (.unimplementedOpcode .t0 (BitVec.ofNat 8 op)) s) : Faults op i :=
  ⟨runs_of_decodeOpcode hop, hexec⟩

/-- Settles O29: `NOP` ends at once; the two others are stubs. -/
theorem nopStopHalt : Obligations.NopStopHalt := by
  unfold Obligations.NopStopHalt
  exact ⟨⟨runs_of_decodeOpcode rfl, fun _ => rfl⟩, faults_of_raise rfl fun _ => rfl, faults_of_raise rfl fun _ => rfl⟩

/-- Settles O30: each is a stub. -/
theorem stubsAndUndefinedFault : Obligations.StubsAndUndefinedFault := by
  unfold Obligations.StubsAndUndefinedFault
  refine ⟨?_, ?_, ?_, ?_, ?_, ?_, ?_, ?_, ?_, ?_, ?_, ?_, ?_, ?_, ?_⟩ <;> exact faults_of_raise rfl fun _ => rfl

/-! ## Operand number 6 (41_engine.md R125) -/

/-- A read of an operand leaves HL, the address of the store, as it was. -/
theorem exec_ldRR_indHl (s : State) (r : R8) : exec (.ldRR .indHl r) s = exec (.ldIndHlR r) s := by
  cases r <;> rfl

/-- Settles O39: the accessor with index 6 is the access at HL, so the two forms run the same operation. -/
theorem operandSixIsHl : Obligations.OperandSixIsHl := by
  unfold Obligations.OperandSixIsHl
  intro s
  refine ⟨exec_ldRR_indHl s, fun _ => rfl, fun _ => rfl, rfl, rfl, rfl, rfl, rfl, rfl, rfl, rfl, rfl, rfl, rfl, rfl, rfl,
    rfl, rfl, rfl, rfl, rfl, fun _ => ⟨rfl, rfl, rfl⟩⟩

end Sys2Proof.Machine

/-! # Proofs: decoding and encoding (30_encoding.md)

A decoded form with its operand bytes stands for one instruction; both directions of the round trip go through it. -/

namespace Sys2Proof

open Machine Spec

/-! ## The most specific row (R63) -/

/-- Settles O52, by induction on the rows: the first row either does not match, or stands against the answer of the
others. -/
theorem decodeIsMostSpecific : Obligations.DecodeIsMostSpecific := by
  unfold Obligations.DecodeIsMostSpecific
  intro rows b
  induction rows with
  | nil => exact ⟨nofun, fun _ q hq => absurd hq List.not_mem_nil⟩
  | cons p rows ih =>
    obtain ⟨ihSome, ihNone⟩ := ih
    cases hp : p.test b with
    | false =>
      simp only [mostSpecific, hp, Bool.false_eq_true, if_false]
      refine ⟨fun r hr => ?_, fun hnone => List.forall_mem_cons.2 ⟨hp, ihNone hnone⟩⟩
      obtain ⟨hmem, htest, hmax⟩ := ihSome r hr
      exact ⟨.tail _ hmem, htest, List.forall_mem_cons.2 ⟨fun h => absurd (hp.symm.trans h) nofun, hmax⟩⟩
    | true =>
      cases hrest : mostSpecific rows b with
      | none =>
        simp only [mostSpecific, hp, hrest, if_true]
        refine ⟨fun r hr => ?_, nofun⟩
        cases hr
        exact ⟨.head _, hp, List.forall_mem_cons.2
          ⟨fun _ => le_rfl, fun q hq h => absurd ((ihNone hrest q hq).symm.trans h) nofun⟩⟩
      | some q =>
        obtain ⟨hmem, htest, hmax⟩ := ihSome q hrest
        simp only [mostSpecific, hp, hrest, if_true]
        by_cases hlt : popcount q.mask < popcount p.mask
        · refine ⟨fun r hr => ?_, by simp [hlt]⟩
          rw [if_pos hlt] at hr
          cases hr
          exact ⟨.head _, hp, List.forall_mem_cons.2 ⟨fun _ => le_rfl, fun u hu h => (hmax u hu h).trans hlt.le⟩⟩
        · refine ⟨fun r hr => ?_, by simp [hlt]⟩
          rw [if_neg hlt] at hr
          cases hr
          exact ⟨.tail _ hmem, htest, List.forall_mem_cons.2 ⟨fun _ => not_lt.1 hlt, hmax⟩⟩

/-! ## Forms and their operands (R68, R69) -/

/-- The instruction of a form, from the value of its operand, a byte or a word. -/
def Form.instr : Form → Byte → Word → Instr
  | .op i, _, _ => i
  | .imm8 k, x, _ => k x
  | .imm16 k, _, w => k w

/-- The operand bytes of a form, from the value of its operand. -/
def Form.operands : Form → Byte → Word → List Byte
  | .op _, _, _ => []
  | .imm8 _, x, _ => [x]
  | .imm16 _, _, w => [lo8 w, hi8 w]

theorem takeOperands_operands (f : Form) (x : Byte) (w : Word) (rest : List Byte) :
    takeOperands f (f.operands x w ++ rest) = .ok (f.instr x w) rest := by
  cases f with
  | op i => rfl
  | imm8 k => rfl
  | imm16 k => exact congrArg (fun v => Decoded.ok (k v) rest) (mk16_hi8_lo8 w)

/-- Operand bytes that are taken are those of some operand value. -/
theorem takeOperands_ok {f : Form} {bytes rest : List Byte} {i : Instr} (h : takeOperands f bytes = .ok i rest) :
    ∃ x w, f.instr x w = i ∧ f.operands x w ++ rest = bytes := by
  match f, bytes, h with
  | .op _, _, rfl => exact ⟨0, 0, rfl, rfl⟩
  | .imm8 _, x :: _, rfl => exact ⟨x, 0, rfl, rfl⟩
  | .imm16 _, lo :: hi :: _, rfl =>
    exact ⟨0, mk16 hi lo, rfl, by rw [Form.operands, lo8_mk16, hi8_mk16]; rfl⟩

/-! ## Every opcode byte (R76, R77) -/

/-- The bytes before the opcode of a table (R67). -/
def TableIx.lead : TableIx → List Byte
  | .t0 => []
  | .t1 => [Config.prefixByte]

theorem forall_byte {p : Byte → Prop} (h : ∀ n, n < 256 → p (BitVec.ofNat 8 n)) (b : Byte) : p b := by
  have hb := h b.toNat b.isLt
  rwa [BitVec.ofNat_toNat, BitVec.setWidth_eq] at hb

/-- Every opcode byte decodes, to a form whose instructions are encoded with it; only the form of the prefix byte in
table 0 is not well-formed. -/
theorem decodeOpcode_encodes (t : TableIx) : ∀ b, ∃ f, decodeOpcode t b = some f ∧ ∀ x w,
    WellFormed (f.instr x w) = !decide (t = .t0 ∧ b = Config.prefixByte) ∧
    encode (f.instr x w) = t.lead ++ b :: f.operands x w := by
  cases t <;> refine forall_byte fun n hn => ?_ <;> interval_cases n <;> refine ⟨_, rfl, ?_⟩ <;>
    exact fun _ _ => ⟨rfl, rfl⟩

/-- Settles O53: the form of each byte is given above. -/
theorem fullCoverage : Obligations.FullCoverage := by
  unfold Obligations.FullCoverage
  intro t b
  obtain ⟨f, hf, -⟩ := decodeOpcode_encodes t b
  exact ⟨f, hf⟩

theorem encode_instr {t : TableIx} {b : Byte} {f : Form} (hf : decodeOpcode t b = some f) (x : Byte) (w : Word) :
    WellFormed (f.instr x w) = !decide (t = .t0 ∧ b = Config.prefixByte) ∧
      encode (f.instr x w) = t.lead ++ b :: f.operands x w := by
  obtain ⟨g, hg, henc⟩ := decodeOpcode_encodes t b
  obtain rfl : g = f := Option.some.inj (hg.symm.trans hf)
  exact henc x w

/-! ## From bytes to an instruction -/

theorem decode_prefixByte (b : Byte) (rest : List Byte) :
    decode (Config.prefixByte :: b :: rest) = decodeIn .t1 b rest := by simp [decode]

theorem decode_of_ne_prefixByte {b : Byte} (hb : b ≠ Config.prefixByte) (rest : List Byte) :
    decode (b :: rest) = decodeIn .t0 b rest := if_neg hb

/-- What decodes is the opcode of a table, not the prefix byte in table 0, and the operand bytes of its form. -/
theorem decode_ok {bytes rest : List Byte} {i : Instr} (h : decode bytes = .ok i rest) :
    ∃ t b f x w, ¬(t = .t0 ∧ b = Config.prefixByte) ∧ decodeOpcode t b = some f ∧ f.instr x w = i ∧
      bytes = t.lead ++ b :: f.operands x w ++ rest := by
  have inTable : ∀ {t b bs}, ¬(t = .t0 ∧ b = Config.prefixByte) → decodeIn t b bs = .ok i rest →
      ∃ f x w, ¬(t = .t0 ∧ b = Config.prefixByte) ∧ decodeOpcode t b = some f ∧ f.instr x w = i ∧
        t.lead ++ b :: bs = t.lead ++ b :: f.operands x w ++ rest := by
    intro t b bs hb hin
    obtain ⟨f, hf, -⟩ := decodeOpcode_encodes t b
    simp only [decodeIn, hf] at hin
    obtain ⟨x, w, hi, hbs⟩ := takeOperands_ok hin
    exact ⟨f, x, w, hb, hf, hi, by rw [← hbs, List.append_assoc]; rfl⟩
  match bytes, h with
  | b :: bs, h =>
    by_cases hb : b = Config.prefixByte
    · subst hb
      match bs, h with
      | b' :: bs', h => exact ⟨.t1, b', inTable (fun hc => nomatch hc.1) ((decode_prefixByte b' bs').symm.trans h)⟩
    · exact ⟨.t0, b, inTable (fun hc => hb hc.2) ((decode_of_ne_prefixByte hb bs).symm.trans h)⟩

/-- Settles O55: the form of the opcode is encoded with it, and its operand bytes are those that were taken. -/
theorem encodeOfDecode : Obligations.EncodeOfDecode := by
  unfold Obligations.EncodeOfDecode
  intro bytes i rest h
  obtain ⟨t, b, f, x, w, hb, hf, rfl, rfl⟩ := decode_ok h
  obtain ⟨hwf, henc⟩ := encode_instr hf x w
  exact ⟨by rw [hwf, decide_eq_false hb]; rfl, by rw [henc]⟩

/-! ## From an instruction to bytes -/

/-- An opcode of a table decodes to a form of the instruction. -/
inductive HasOpcode : Instr → Prop
  | op {i : Instr} (t : TableIx) (b : Byte) (h : decodeOpcode t b = some (.op i)) : HasOpcode i
  | imm8 (b : Byte) (k : Byte → Instr) (h : decodeOpcode .t0 b = some (.imm8 k)) (x : Byte) : HasOpcode (k x)
  | imm16 (b : Byte) (k : Word → Instr) (h : decodeOpcode .t0 b = some (.imm16 k)) (w : Word) : HasOpcode (k w)

theorem HasOpcode.exists_form {i : Instr} (h : HasOpcode i) :
    ∃ t b f x w, decodeOpcode t b = some f ∧ f.instr x w = i := by
  cases h with
  | op t b h => exact ⟨t, b, _, 0, 0, h, rfl⟩
  | imm8 b k h x => exact ⟨.t0, b, _, x, 0, h, rfl⟩
  | imm16 b k h w => exact ⟨.t0, b, _, 0, w, h, rfl⟩

/-- The opcode byte of an instruction's encoding, where it is in table 0 or in table 1. -/
theorem HasOpcode.of_encode0 {i : Instr} (h : decodeOpcode .t0 ((encode i).headD 0) = some (.op i)) : HasOpcode i :=
  .op _ _ h

theorem HasOpcode.of_encode1 {i : Instr} (h : decodeOpcode .t1 ((encode i).getD 1 0) = some (.op i)) : HasOpcode i :=
  .op _ _ h

/-- A register operand of a well-formed instruction is not `(HL)`; then the opcode is that of the earlier lemmas. -/
theorem hasOpcode_of_wellFormed {i : Instr} (h : WellFormed i = true) : HasOpcode i := by
  have reg : ∀ {r : R8}, r.isReg = true → r ≠ .indHl := fun {r} => (R8.isReg_iff r).1
  cases i with
  | prefixCb => cases h
  | nop | ldIndBcA | rlca | ldAIndBc | rrca | stop | ldIndDeA | rla | ldAIndDe | rra | ldIndHlIncA | daa | ldAIndHlInc
  | cpl | ldIndHlDecA | incIndHl | decIndHl | scf | ldAIndHlDec | ccf | halt | addAIndHl | adcAIndHl | subIndHl
  | sbcAIndHl | andIndHl | xorIndHl | orIndHl | cpIndHl | ret | illegalD3 | reti | illegalDB | illegalDD | ldIndCA
  | illegalE3 | illegalE4 | jpHl | illegalEB | illegalEC | illegalED | ldAIndC | di | illegalF4 | ldSpHl | ei
  | illegalFC | illegalFD => exact .of_encode0 rfl
  | rlcIndHl | rrcIndHl | rlIndHl | rrIndHl | slaIndHl | sraIndHl | swapIndHl | srlIndHl => exact .of_encode1 rfl
  | ldRR dst src =>
    obtain ⟨hdst, hsrc⟩ := Bool.and_eq_true_iff.1 h
    exact .op _ _ (decodeOpcode_ldRR (reg hdst) (reg hsrc))
  | ldRD8 dst v => exact .imm8 _ _ (decodeOpcode_ldRD8 (reg h)) v
  | ldRIndHl dst => exact .op _ _ (decodeOpcode_ldRIndHl (reg h))
  | ldIndHlR src => exact .op _ _ (decodeOpcode_ldIndHlR (reg h))
  | incR dst => exact .op _ _ (decodeOpcode_incR dst (reg h))
  | decR dst => exact .op _ _ (decodeOpcode_decR dst (reg h))
  | addAR src => exact .op _ _ (decodeOpcode_addAR src (reg h))
  | adcAR src => exact .op _ _ (decodeOpcode_adcAR src (reg h))
  | subR src => exact .op _ _ (decodeOpcode_subR src (reg h))
  | sbcAR src => exact .op _ _ (decodeOpcode_sbcAR src (reg h))
  | andR src => exact .op _ _ (decodeOpcode_andR src (reg h))
  | xorR src => exact .op _ _ (decodeOpcode_xorR src (reg h))
  | orR src => exact .op _ _ (decodeOpcode_orR src (reg h))
  | cpR src => exact .op _ _ (decodeOpcode_cpR src (reg h))
  | rlcR src => exact .op _ _ (decodeOpcode_rlcR src (reg h))
  | rrcR src => exact .op _ _ (decodeOpcode_rrcR src (reg h))
  | rlR src => exact .op _ _ (decodeOpcode_rlR src (reg h))
  | rrR src => exact .op _ _ (decodeOpcode_rrR src (reg h))
  | slaR src => exact .op _ _ (decodeOpcode_slaR src (reg h))
  | sraR src => exact .op _ _ (decodeOpcode_sraR src (reg h))
  | swapR src => exact .op _ _ (decodeOpcode_swapR src (reg h))
  | srlR src => exact .op _ _ (decodeOpcode_srlR src (reg h))
  | bitR b src => exact .op _ _ (decodeOpcode_bitR b src (reg h))
  | resR b src => exact .op _ _ (decodeOpcode_resR b src (reg h))
  | setR b src => exact .op _ _ (decodeOpcode_setR b src (reg h))
  | bitIndHl b => exact .op _ _ (decodeOpcode_bitIndHl b)
  | resIndHl b => exact .op _ _ (decodeOpcode_resIndHl b)
  | setIndHl b => exact .op _ _ (decodeOpcode_setIndHl b)
  | rstT t => exact .op _ _ (decodeOpcode_rstT t)
  | ldRrD16 p v => exact .imm16 _ _ (decodeOpcode_ldRrD16 p) v
  | incRr p => exact .op _ _ (decodeOpcode_incRr p)
  | decRr p => exact .op _ _ (decodeOpcode_decRr p)
  | addHlRr p => exact .op _ _ (decodeOpcode_addHlRr p)
  | pushRr p => exact .op _ _ (decodeOpcode_pushRr p)
  | popRr p => exact .op _ _ (decodeOpcode_popRr p)
  | jrCcE8 cc e => exact .imm8 _ _ (decodeOpcode_jrCcE8 cc) e
  | jpCcA16 cc a => exact .imm16 _ _ (decodeOpcode_jpCcA16 cc) a
  | callCcA16 cc a => exact .imm16 _ _ (decodeOpcode_callCcA16 cc) a
  | retCc cc => exact .op _ _ (decodeOpcode_retCc cc)
  | jrE8 e => exact .imm8 0x18#8 .jrE8 rfl e
  | ldIndHlD8 v => exact .imm8 0x36#8 .ldIndHlD8 rfl v
  | addAD8 v => exact .imm8 0xC6#8 .addAD8 rfl v
  | adcAD8 v => exact .imm8 0xCE#8 .adcAD8 rfl v
  | subD8 v => exact .imm8 0xD6#8 .subD8 rfl v
  | sbcAD8 v => exact .imm8 0xDE#8 .sbcAD8 rfl v
  | andD8 v => exact .imm8 0xE6#8 .andD8 rfl v
  | xorD8 v => exact .imm8 0xEE#8 .xorD8 rfl v
  | orD8 v => exact .imm8 0xF6#8 .orD8 rfl v
  | cpD8 v => exact .imm8 0xFE#8 .cpD8 rfl v
  | ldhIndA8A n => exact .imm8 0xE0#8 .ldhIndA8A rfl n
  | ldhAIndA8 n => exact .imm8 0xF0#8 .ldhAIndA8 rfl n
  | addSpE8 e => exact .imm8 0xE8#8 .addSpE8 rfl e
  | ldHlSpE8 e => exact .imm8 0xF8#8 .ldHlSpE8 rfl e
  | ldIndA16Sp a => exact .imm16 0x08#8 .ldIndA16Sp rfl a
  | jpA16 a => exact .imm16 0xC3#8 .jpA16 rfl a
  | callA16 a => exact .imm16 0xCD#8 .callA16 rfl a
  | ldIndA16A a => exact .imm16 0xEA#8 .ldIndA16A rfl a
  | ldAIndA16 a => exact .imm16 0xFA#8 .ldAIndA16 rfl a

/-- The bytes of a form decode to its instruction: the prefix byte selects table 1, any other byte is in table 0. -/
theorem decode_form {t : TableIx} {b : Byte} {f : Form} (hb : ¬(t = .t0 ∧ b = Config.prefixByte))
    (hf : decodeOpcode t b = some f) (x : Byte) (w : Word) (rest : List Byte) :
    decode (t.lead ++ b :: f.operands x w ++ rest) = .ok (f.instr x w) rest := by
  have hin : decodeIn t b (f.operands x w ++ rest) = .ok (f.instr x w) rest := by
    simp only [decodeIn, hf, takeOperands_operands]
  cases t with
  | t0 => exact (decode_of_ne_prefixByte (fun h => hb ⟨rfl, h⟩) _).trans hin
  | t1 => exact (decode_prefixByte b _).trans hin

/-- Settles O54: a well-formed instruction has an opcode, and its encoding is that opcode's form. -/
theorem decodeOfEncode : Obligations.DecodeOfEncode := by
  unfold Obligations.DecodeOfEncode
  intro i rest h
  obtain ⟨t, b, f, x, w, hf, rfl⟩ := (hasOpcode_of_wellFormed h).exists_form
  obtain ⟨hwf, henc⟩ := encode_instr hf x w
  have hb : ¬(t = .t0 ∧ b = Config.prefixByte) := of_decide_eq_false (by rw [hwf] at h; simpa only [Bool.not_eq_true'] using h)
  rw [henc]
  exact decode_form hb hf x w rest

/-- Settles O51: each word evaluates. -/
theorem decodedWords : Obligations.DecodedWords := by
  unfold Obligations.DecodedWords
  exact ⟨rfl, rfl, rfl, rfl, rfl, rfl, rfl, rfl, rfl, rfl, rfl, rfl, rfl, rfl, rfl⟩

end Sys2Proof

/-! # Proofs: the bus calls of an instruction, in order (20_memory.md R30, R36) -/

namespace Sys2Proof.Machine

open Sys2Proof.Spec

/-- The bus after one call that is recorded as given. -/
def Bus.call (u : Bus) : BusCall → Bus
  | .read a v => { u with replies := u.replies.tail, log := .read a v :: u.log }
  | .write a v => { u with mem := Memory.write u.mem a.toNat v, log := .write a v :: u.log }

/-- The bus after several calls, in order. -/
def Bus.perform (u : Bus) (calls : List BusCall) : Bus := calls.foldl Bus.call u

theorem Bus.call_log (u : Bus) (c : BusCall) : (u.call c).log = c :: u.log := by cases c <;> rfl

theorem Bus.perform_log (calls : List BusCall) (u : Bus) : (u.perform calls).log = calls.reverse ++ u.log := by
  induction calls generalizing u with
  | nil => rfl
  | cons c calls ih =>
    rw [List.reverse_cons, List.append_assoc, List.singleton_append, ← u.call_log c]
    exact ih (u.call c)

/-- The calls keep the content in canonical form. -/
theorem Bus.perform_wf (calls : List BusCall) {u : Bus} (h : Memory.wf u.mem = true) :
    Memory.wf (u.perform calls).mem = true := by
  induction calls generalizing u with
  | nil => exact h
  | cons c calls ih =>
    refine ih (u := u.call c) ?_
    cases c with
    | read a v => exact h
    | write a v => exact Memory.wf_write u.mem a.toNat v a.isLt h

/-- The calls leave every address alone that none of them writes. -/
theorem Bus.read_perform (calls : List BusCall) (u : Bus) {a : Nat}
    (h : ∀ w, (true, w) ∈ calls.map accessOf → a ≠ w.toNat) :
    Memory.read (u.perform calls).mem a = Memory.read u.mem a := by
  induction calls generalizing u with
  | nil => rfl
  | cons c calls ih =>
    refine (ih (u.call c) fun w hw => h w (List.mem_cons_of_mem _ hw)).trans ?_
    cases c with
    | read b v => rfl
    | write b v => exact Memory.read_write_other u.mem b.toNat a v (h b (.head _))

end Sys2Proof.Machine

/-! # Proofs: what a change of the register file may write (10_state.md; 40_primitives.md R116) -/

namespace Sys2Proof.Machine

open Sys2Proof.Spec

/-! ## F as a byte of flags (10_state.md R11, R13) -/

theorem flags_flagByte (z n h c : Bool) :
    ((flagByte z n h c).toNat / 128 % 2 == 1) = z ∧ ((flagByte z n h c).toNat / 64 % 2 == 1) = n ∧
      ((flagByte z n h c).toNat / 32 % 2 == 1) = h ∧ ((flagByte z n h c).toNat / 16 % 2 == 1) = c ∧
      flagByte z n h c &&& 0x0F#8 = 0#8 := by
  revert z n h c
  decide

theorem low_highNibble (n : Nat) : BitVec.ofNat 8 (16 * (n / 16)) &&& 0x0F#8 = 0#8 := by
  apply BitVec.eq_of_toNat_eq
  rw [BitVec.toNat_and, BitVec.toNat_ofNat, show (0x0F#8).toNat = 2 ^ 4 - 1 from rfl, Nat.and_two_pow_sub_one_eq_mod]
  show _ = 0
  omega

/-! ## Registers after a write (10_state.md R12, R14) -/

theorem withRegister_f (q : RegFile) (o : R8) (v : Byte) : (withRegister q o v).f = q.f := by cases o <;> rfl
theorem withRegister_sp (q : RegFile) (o : R8) (v : Byte) : (withRegister q o v).sp = q.sp := by cases o <;> rfl
theorem withRegister_pc (q : RegFile) (o : R8) (v : Byte) : (withRegister q o v).pc = q.pc := by cases o <;> rfl

theorem get8_withRegister {o : R8} {id : Id8} (hid : id ∉ idOf o) (v : Byte) (q : RegFile) :
    (withRegister q o v).get8 id = q.get8 id := by
  cases o <;> cases id <;> simp_all [Spec.withRegister, idOf]

theorem withPair_f (q : RegFile) (p : R16) (v : Word) : (withPair q p v).f = q.f := by cases p <;> rfl
theorem withPair_pc (q : RegFile) (p : R16) (v : Word) : (withPair q p v).pc = q.pc := by cases p <;> rfl

theorem withPair_sp {p : R16} (hp : p ≠ .sp) (v : Word) (q : RegFile) : (withPair q p v).sp = q.sp := by
  cases p with
  | sp => exact absurd rfl hp
  | _ => rfl

theorem get8_withPair {p : R16} {id : Id8} (hid : id ∉ idsOfPair p) (v : Word) (q : RegFile) :
    (withPair q p v).get8 id = q.get8 id := by
  cases p <;> cases id <;> simp_all [Spec.withPair, idsOfPair]

/-- `r` becomes `q` and at most these are written: the byte registers `ds`, the flags of `fl`, SP, PC. F's low nibble stays
0 (R11). -/
structure WritesOnly (ds : List Id8) (fl : Bool × Bool × Bool × Bool) (sp pc : Bool) (r q : RegFile) : Prop where
  byte : ∀ id, id ≠ .f → id ∉ ds → q.get8 id = r.get8 id
  stack : sp = false → q.sp = r.sp
  counter : pc = false → q.pc = r.pc
  zero : fl.1 = false → zOf q = zOf r
  subtract : fl.2.1 = false → nOf q = nOf r
  half : fl.2.2.1 = false → hOf q = hOf r
  carry : fl.2.2.2 = false → cOf q = cOf r
  flags : fl = (false, false, false, false) → q.f = r.f
  low : r.f &&& 0x0F#8 = 0#8 → q.f &&& 0x0F#8 = 0#8

section

variable {ds : List Id8} {fl : Bool × Bool × Bool × Bool} {sp pc : Bool} {r q : RegFile}

/-- F as it was, whatever may be written of it. -/
theorem WritesOnly.of_f_eq (hf : q.f = r.f) (hbyte : ∀ id, id ≠ .f → id ∉ ds → q.get8 id = r.get8 id)
    (hsp : sp = false → q.sp = r.sp) (hpc : pc = false → q.pc = r.pc) : WritesOnly ds fl sp pc r q where
  byte := hbyte
  stack := hsp
  counter := hpc
  zero _ := by rw [zOf, hf]; rfl
  subtract _ := by rw [nOf, hf]; rfl
  half _ := by rw [hOf, hf]; rfl
  carry _ := by rw [cOf, hf]; rfl
  flags _ := hf
  low hlow := by rw [hf, hlow]

theorem WritesOnly.refl (r : RegFile) : WritesOnly ds fl sp pc r r :=
  .of_f_eq rfl (fun _ _ _ => rfl) (fun _ => rfl) (fun _ => rfl)

/-- F written, each flag that may not be as it was. -/
theorem WritesOnly.setFlags {z n h c : Bool} (r : RegFile) (hfl : fl ≠ (false, false, false, false))
    (hz : fl.1 = false → z = zOf r) (hn : fl.2.1 = false → n = nOf r) (hh : fl.2.2.1 = false → h = hOf r)
    (hc : fl.2.2.2 = false → c = cOf r) : WritesOnly ds fl sp pc r { r with f := flagByte z n h c } := by
  obtain ⟨z', n', h', c', low⟩ := flags_flagByte z n h c
  exact {
    byte := fun id hid _ => by
      cases id with
      | f => exact absurd rfl hid
      | _ => rfl
    stack := fun _ => rfl
    counter := fun _ => rfl
    zero := fun hw => z'.trans (hz hw)
    subtract := fun hw => n'.trans (hn hw)
    half := fun hw => h'.trans (hh hw)
    carry := fun hw => c'.trans (hc hw)
    flags := fun hw => absurd hw hfl
    low := fun _ => low }

/-- All of F written. -/
theorem WritesOnly.setAllFlags (z n h c : Bool) (r : RegFile) :
    WritesOnly ds (true, true, true, true) sp pc r { r with f := flagByte z n h c } :=
  .setFlags r nofun nofun nofun nofun nofun

/-- One change after another, the second of byte registers, SP or PC. -/
theorem WritesOnly.then {q' : RegFile} (h : WritesOnly [] fl sp pc r q) (hf : q'.f = q.f)
    (hbyte : ∀ id, id ≠ .f → id ∉ ds → q'.get8 id = q.get8 id) (hsp : sp = false → q'.sp = q.sp)
    (hpc : pc = false → q'.pc = q.pc) : WritesOnly ds fl sp pc r q' where
  byte id hid hds := (hbyte id hid hds).trans (h.byte id hid List.not_mem_nil)
  stack hw := (hsp hw).trans (h.stack hw)
  counter hw := (hpc hw).trans (h.counter hw)
  zero hw := by rw [← h.zero hw, zOf, hf]; rfl
  subtract hw := by rw [← h.subtract hw, nOf, hf]; rfl
  half hw := by rw [← h.half hw, hOf, hf]; rfl
  carry hw := by rw [← h.carry hw, cOf, hf]; rfl
  flags hw := hf.trans (h.flags hw)
  low hlow := by rw [hf, h.low hlow]

theorem WritesOnly.withRegister (h : WritesOnly [] fl sp pc r q) (o : R8) (v : Byte) :
    WritesOnly (idOf o) fl sp pc r (withRegister q o v) :=
  h.then (withRegister_f q o v) (fun _ _ hid => get8_withRegister hid v q) (fun _ => withRegister_sp q o v)
    fun _ => withRegister_pc q o v

theorem WritesOnly.withPair (h : WritesOnly [] fl sp pc r q) (p : R16) (v : Word) (hp : p = .sp → sp = true) :
    WritesOnly (idsOfPair p) fl sp pc r (withPair q p v) :=
  h.then (withPair_f q p v) (fun _ _ hid => get8_withPair hid v q)
    (fun hw => withPair_sp (fun hsp => absurd ((hp hsp).symm.trans hw) nofun) v q) fun _ => withPair_pc q p v

theorem WritesOnly.setSp (h : WritesOnly [] fl true pc r q) (v : Word) :
    WritesOnly [] fl true pc r { q with sp := v } :=
  h.then rfl (fun id _ _ => by cases id <;> rfl) nofun fun _ => rfl

theorem WritesOnly.setPc (h : WritesOnly [] fl sp true r q) (v : Word) :
    WritesOnly [] fl sp true r { q with pc := v } :=
  h.then rfl (fun id _ _ => by cases id <;> rfl) (fun _ => rfl) nofun

/-- For AF all of F is written, with a low nibble 0. -/
theorem WritesOnly.withStackPair (p : R16Stk) (v : Word) (r : RegFile) (a : Word) :
    WritesOnly (idsOfStackPair p) (flagsWritten (.popRr p)) true false r
      (withStackPair { r with sp := v } p a) := by
  cases p with
  | bc => exact .of_f_eq rfl (fun _ _ hid => get8_withPair (p := .bc) hid a r) nofun fun _ => rfl
  | de => exact .of_f_eq rfl (fun _ _ hid => get8_withPair (p := .de) hid a r) nofun fun _ => rfl
  | hl => exact .of_f_eq rfl (fun _ _ hid => get8_withPair (p := .hl) hid a r) nofun fun _ => rfl
  | af =>
    exact {
      byte := fun id _ hds => by cases id <;> simp_all [Spec.withStackPair, idsOfStackPair]
      stack := nofun
      counter := fun _ => rfl
      zero := nofun
      subtract := nofun
      half := nofun
      carry := nofun
      flags := nofun
      low := fun _ => low_highNibble (a.toNat % 256) }

end

end Sys2Proof.Machine

namespace Sys2Proof.Spec

open Sys2Proof.Machine

/-! ## Register files that differ in N and H at most (10_state.md R13) -/

section

variable {r q : RegFile}

theorem AlikeButNH.refl (r : RegFile) : AlikeButNH r r := ⟨rfl, rfl, rfl⟩

theorem AlikeButNH.of_eq (h : q = r) : AlikeButNH r q := h ▸ .refl r

theorem AlikeButNH.zero_eq (h : AlikeButNH r q) : zOf q = zOf r := h.1

theorem AlikeButNH.carry_eq (h : AlikeButNH r q) : cOf q = cOf r := h.2.1

theorem AlikeButNH.holds_eq (h : AlikeButNH r q) (cc : Cond) : holds q cc = holds r cc := by
  obtain ⟨hz, hc, -⟩ := h
  cases cc with
  | nz => exact congrArg (!·) hz
  | z => exact hz
  | nc => exact congrArg (!·) hc
  | c => exact hc

theorem AlikeButNH.extraCycles_eq (h : AlikeButNH r q) (i : Instr) : extraCycles i q = extraCycles i r := by
  unfold extraCycles
  split
  all_goals simp only [h.holds_eq]

/-- A value that is not of F is the same. -/
theorem AlikeButNH.congr {α : Type} {g : RegFile → α} (hg : ∀ r f, g { r with f := f } = g r) (h : AlikeButNH r q) :
    g q = g r := by
  obtain ⟨-, -, hq⟩ := h
  exact (congrArg g hq).trans (hg r q.f)

/-- Once all of F is written, nothing is left of the difference. -/
theorem AlikeButNH.eq_of_writeF (h : AlikeButNH r q) (f : Byte) : { q with f := f } = { r with f := f } :=
  h.congr (g := fun r : RegFile => { r with f := f }) fun _ _ => rfl

/-- A change that neither reads nor writes F keeps the likeness. -/
theorem AlikeButNH.map {g : RegFile → RegFile} (hg : ∀ r f, g { r with f := f } = { g r with f := f })
    (h : AlikeButNH r q) : AlikeButNH (g r) (g q) := by
  obtain ⟨hz, hc, hq⟩ := h
  have hf : ∀ r, (g r).f = r.f := fun r => (congrArg RegFile.f (hg r r.f) :)
  refine ⟨?_, ?_, ?_⟩
  · rw [zOf, hf]; exact hz.trans (by rw [zOf, zOf, hf])
  · rw [cOf, hf]; exact hc.trans (by rw [cOf, cOf, hf])
  · rw [hf]; exact (congrArg g hq).trans (hg r q.f)

end

end Sys2Proof.Spec

/-! # Proofs: the primitives, by what they write and what they read of F (40_primitives.md R90 to R116) -/

namespace Sys2Proof.Machine

open Sys2Proof.Spec

/-- An accumulator primitive: it writes at most the byte registers `ds` and the flags of `fl`, and N and H do not matter
to it. -/
structure AccPrim (ds : List Id8) (fl : Bool × Bool × Bool × Bool) (prim : Byte → RegFile → RegFile) : Prop where
  writes : ∀ v r sp pc, WritesOnly ds fl sp pc r (prim v r)
  alike : ∀ v r q, AlikeButNH r q → prim v q = prim v r

/-- An operand primitive: it writes at most the flags of `fl`, and N and H do not matter to its byte, Z and C. -/
structure ModPrim (fl : Bool × Bool × Bool × Bool) (prim : Byte → RegFile → Byte × RegFile) : Prop where
  writes : ∀ x r sp pc, WritesOnly [] fl sp pc r (prim x r).2
  alike : ∀ x r q, AlikeButNH r q → (prim x q).1 = (prim x r).1 ∧ AlikeButNH (prim x r).2 (prim x q).2

/-! ## Accumulator primitives -/

theorem add8_prim (useCarry : Bool) : AccPrim [.a] (true, true, true, true) (add8 useCarry) where
  writes v r _ _ := by
    rw [add8_eq_added]
    exact (WritesOnly.setAllFlags _ _ _ _ r).withRegister .a _
  alike v r q h := by
    rw [add8_eq_added, add8_eq_added, h.carry_eq]
    exact h.congr (g := (added _ · v)) fun _ _ => rfl

theorem sub8_prim (useBorrow : Bool) : AccPrim [.a] (true, true, true, true) (sub8 useBorrow true) where
  writes v r _ _ := by
    rw [sub8_eq_subtracted]
    exact (WritesOnly.setAllFlags _ _ _ _ r).withRegister .a _
  alike v r q h := by
    rw [sub8_eq_subtracted, sub8_eq_subtracted, h.carry_eq]
    exact h.congr (g := (subtracted _ · v)) fun _ _ => rfl

theorem compare_prim : AccPrim [] (true, true, true, true) (sub8 false false) where
  writes v r _ _ := by
    rw [sub8_eq_compared]
    exact .setAllFlags _ _ _ _ r
  alike v r q h := by
    rw [sub8_eq_compared, sub8_eq_compared]
    exact h.congr (g := (compared · v)) fun _ _ => rfl

theorem logical_prim {op : Nat → Nat → Nat} {half : Bool} {prim : Byte → RegFile → RegFile}
    (hprim : ∀ v r, prim v r = logical op half r v) : AccPrim [.a] (true, true, true, true) prim where
  writes v r _ _ := by
    rw [hprim]
    exact (WritesOnly.setAllFlags _ _ _ _ r).withRegister .a _
  alike v r q h := by
    rw [hprim, hprim]
    exact h.congr (g := (logical op half · v)) fun _ _ => rfl

theorem testBit_prim (b : BitVec 3) : AccPrim [] (true, true, true, false) (testBit b) where
  writes v r _ _ := by
    rw [testBit_eq]
    exact .setFlags r nofun nofun nofun nofun fun _ => rfl
  alike v r q h := by
    rw [testBit_eq, testBit_eq, h.carry_eq]
    exact h.eq_of_writeF _

/-! ## Operand primitives -/

/-- Every rotate and shift, and `SWAP`. -/
theorem shift_prim {g : Shift} {setZ : Bool} {prim : Byte → RegFile → Byte × RegFile}
    (hprim : ∀ x r, prim x r = (shifted g r x, shiftedFlags g setZ r x)) :
    ModPrim (true, true, true, true) prim where
  writes x r _ _ := by
    rw [hprim]
    exact .setAllFlags _ _ _ _ r
  alike x r q h := by
    rw [hprim, hprim, shifted, shifted, shiftedFlags, shiftedFlags, h.carry_eq]
    exact ⟨rfl, .of_eq (h.eq_of_writeF _)⟩

theorem inc8_prim : ModPrim (true, true, true, false) inc8 where
  writes x r _ _ := by
    rw [inc8_eq]
    exact .setFlags r nofun nofun nofun nofun fun _ => rfl
  alike x r q h := by
    rw [inc8_eq, inc8_eq, incrementFlags, incrementFlags, h.carry_eq]
    exact ⟨rfl, .of_eq (h.eq_of_writeF _)⟩

theorem dec8_prim : ModPrim (true, true, true, false) dec8 where
  writes x r _ _ := by
    rw [dec8_eq]
    exact .setFlags r nofun nofun nofun nofun fun _ => rfl
  alike x r q h := by
    rw [dec8_eq, dec8_eq, decrementFlags, decrementFlags, h.carry_eq]
    exact ⟨rfl, .of_eq (h.eq_of_writeF _)⟩

/-- `RES` and `SET`: a byte of the operand alone, F left whole. -/
theorem byte_prim (g : Byte → Byte) : ModPrim (false, false, false, false) fun x r => (g x, r) where
  writes _ r _ _ := .refl r
  alike _ _ _ h := ⟨rfl, h⟩

/-- The flags are written before the byte, but HL, the address of the byte, is as it was. -/
theorem ModPrim.modR8_indHl {fl : Bool × Bool × Bool × Bool} {prim : Byte → RegFile → Byte × RegFile}
    (h : ModPrim fl prim) (s : State) : modR8 prim .indHl s = modIndHl prim s := by
  have hw := h.writes (s.bus.answer s.rf.hl) s.rf false false
  have hhl : (prim (s.bus.answer s.rf.hl) s.rf).2.hl = s.rf.hl :=
    congrArg₂ mk16 (hw.byte .h nofun List.not_mem_nil) (hw.byte .l nofun List.not_mem_nil)
  exact congrArg (fun a => ret 0 (((s.memRead s.rf.hl).2.setRf (prim (s.bus.answer s.rf.hl) s.rf).2).memWrite a
    (prim (s.bus.answer s.rf.hl) s.rf).1)) hhl

end Sys2Proof.Machine

/-! # Proofs: what every instruction does

One description of `exec` for every instruction that is no stub: the bus calls it makes and the register file it leaves, as
functions of the register file and the bus it starts with. The frames, the bus calls, the invariant and the two-run
statements are read off it. -/

namespace Sys2Proof.Machine

open Sys2Proof.Spec

/-- The meaning of an instruction, against the tables of what it may write and access. -/
structure Meets (i : Instr) (calls : RegFile → Bus → List BusCall) (regs : RegFile → Bus → RegFile) : Prop where
  exec_eq : ∀ s, exec i s =
    done { s with bus := s.bus.perform (calls s.rf s.bus) } (regs s.rf s.bus) (extraCycles i s.rf)
  accesses_eq : ∀ r u, (calls r u).map accessOf = accesses i r
  writes : ∀ r u, WritesOnly (destinations i) (flagsWritten i) (writesSp i) (transfers i) r (regs r u)
  alike : i ≠ .daa → i ≠ .pushRr .af → ∀ r q u, AlikeButNH r q →
    calls q u = calls r u ∧ AlikeButNH (regs r u) (regs q u)

def HasMeaning (i : Instr) : Prop := ∃ calls regs, Meets i calls regs

section

variable {i : Instr}

/-! ## The shapes of a handler -/

/-- No bus call. -/
theorem HasMeaning.pure {g : RegFile → RegFile} (hexec : ∀ s, exec i s = done s (g s.rf) (extraCycles i s.rf))
    (hacc : ∀ r, accesses i r = [])
    (hwrites : ∀ r, WritesOnly (destinations i) (flagsWritten i) (writesSp i) (transfers i) r (g r))
    (halike : i ≠ .daa → ∀ r q, AlikeButNH r q → AlikeButNH (g r) (g q)) : HasMeaning i :=
  ⟨fun _ _ => [], fun r _ => g r, hexec, fun r _ => (hacc r).symm, fun r _ => hwrites r,
    fun hdaa _ r q _ h => ⟨rfl, halike hdaa r q h⟩⟩

/-- One read. -/
theorem HasMeaning.read {addr : RegFile → Word} {g : Byte → RegFile → RegFile}
    (hexec : ∀ s, exec i s = done (afterRead (addr s.rf) s) (g (s.bus.answer (addr s.rf)) s.rf) (extraCycles i s.rf))
    (hacc : ∀ r, accesses i r = [(false, addr r)]) (haddr : ∀ r f, addr { r with f := f } = addr r)
    (hwrites : ∀ v r, WritesOnly (destinations i) (flagsWritten i) (writesSp i) (transfers i) r (g v r))
    (halike : ∀ v r q, AlikeButNH r q → AlikeButNH (g v r) (g v q)) : HasMeaning i :=
  ⟨fun r u => [.read (addr r) (u.answer (addr r))], fun r u => g (u.answer (addr r)) r, hexec,
    fun r _ => (hacc r).symm, fun r _ => hwrites _ r,
    fun _ _ r q u h => by rw [h.congr haddr]; exact ⟨rfl, halike _ r q h⟩⟩

/-- One write. -/
theorem HasMeaning.write {addr : RegFile → Word} {val : RegFile → Byte} {g : RegFile → RegFile}
    (hexec : ∀ s, exec i s = done (afterWrite (addr s.rf) (val s.rf) s) (g s.rf) (extraCycles i s.rf))
    (hacc : ∀ r, accesses i r = [(true, addr r)]) (haddr : ∀ r f, addr { r with f := f } = addr r)
    (hval : ∀ r f, val { r with f := f } = val r)
    (hwrites : ∀ r, WritesOnly (destinations i) (flagsWritten i) (writesSp i) (transfers i) r (g r))
    (halike : ∀ r q, AlikeButNH r q → AlikeButNH (g r) (g q)) : HasMeaning i :=
  ⟨fun r _ => [.write (addr r) (val r)], fun r _ => g r, hexec, fun r _ => (hacc r).symm, fun r _ => hwrites r,
    fun _ _ r q _ h => by rw [h.congr haddr, h.congr hval]; exact ⟨rfl, halike r q h⟩⟩

/-- One read and one write at HL. -/
theorem HasMeaning.readWriteHl {prim : Byte → RegFile → Byte × RegFile}
    (hexec : ∀ s, exec i s =
      done (afterWrite (hl s.rf) (prim (s.bus.answer (hl s.rf)) s.rf).1 (afterRead (hl s.rf) s))
        (prim (s.bus.answer (hl s.rf)) s.rf).2 (extraCycles i s.rf))
    (hacc : ∀ r, accesses i r = [(false, hl r), (true, hl r)])
    (hwrites : ∀ x r, WritesOnly (destinations i) (flagsWritten i) (writesSp i) (transfers i) r (prim x r).2)
    (halike : ∀ x r q, AlikeButNH r q → (prim x q).1 = (prim x r).1 ∧ AlikeButNH (prim x r).2 (prim x q).2) :
    HasMeaning i := by
  refine ⟨fun r u => [.read (hl r) (u.answer (hl r)), .write (hl r) (prim (u.answer (hl r)) r).1],
    fun r u => (prim (u.answer (hl r)) r).2, hexec, fun r _ => (hacc r).symm, fun r _ => hwrites _ r,
    fun _ _ r q u h => ?_⟩
  obtain ⟨hbyte, hregs⟩ := halike (u.answer (hl r)) r q h
  rw [h.congr (g := hl) fun _ _ => rfl, hbyte]
  exact ⟨rfl, hregs⟩

/-- Two writes below SP. -/
theorem HasMeaning.push {val : RegFile → Word} {g : RegFile → RegFile}
    (hexec : ∀ s, exec i s =
      done (afterWrite (s.rf.sp - 2) (low (val s.rf)) (afterWrite (s.rf.sp - 1) (high (val s.rf)) s)) (g s.rf)
        (extraCycles i s.rf))
    (hacc : ∀ r, accesses i r = pushes r) (hval : i ≠ .pushRr .af → ∀ r f, val { r with f := f } = val r)
    (hwrites : ∀ r, WritesOnly (destinations i) (flagsWritten i) (writesSp i) (transfers i) r (g r))
    (halike : ∀ r q, AlikeButNH r q → AlikeButNH (g r) (g q)) : HasMeaning i :=
  ⟨fun r _ => [.write (r.sp - 1) (high (val r)), .write (r.sp - 2) (low (val r))], fun r _ => g r, hexec,
    fun r _ => (hacc r).symm, fun r _ => hwrites r,
    fun _ haf r q _ h => by
      rw [h.congr (hval haf), h.congr (g := RegFile.sp) fun _ _ => rfl]; exact ⟨rfl, halike r q h⟩⟩

/-- The two reads of a pop, and the word they give. -/
def popCalls (sp : Word) (u : Bus) : List BusCall :=
  [.read sp (u.answer sp), .read (sp + 1) ((u.call (.read sp (u.answer sp))).answer (sp + 1))]

def popValue (sp : Word) (u : Bus) : Word :=
  word ((u.call (.read sp (u.answer sp))).answer (sp + 1)) (u.answer sp)

/-- Two reads from SP up; the register file depends on the word they give. -/
theorem HasMeaning.pop {g : Word → RegFile → RegFile}
    (hexec : ∀ s, exec i s =
      done (afterRead (s.rf.sp + 1) (afterRead s.rf.sp s))
        (g (word ((afterRead s.rf.sp s).bus.answer (s.rf.sp + 1)) (s.bus.answer s.rf.sp)) s.rf)
        (extraCycles i s.rf))
    (hacc : ∀ r, accesses i r = pops r)
    (hwrites : ∀ v r, WritesOnly (destinations i) (flagsWritten i) (writesSp i) (transfers i) r (g v r))
    (halike : ∀ v r q, AlikeButNH r q → AlikeButNH (g v r) (g v q)) : HasMeaning i := by
  refine ⟨fun r u => popCalls r.sp u, fun r u => g (popValue r.sp u) r, hexec, fun r _ => (hacc r).symm,
    fun r _ => hwrites _ r, fun _ _ r q u h => ?_⟩
  rw [h.congr (g := RegFile.sp) fun _ _ => rfl]
  exact ⟨rfl, halike _ r q h⟩

/-- A control transfer on a condition: where it does not hold, nothing is done. -/
theorem HasMeaning.conditional {cc : Cond} {n : Nat} {calls : RegFile → Bus → List BusCall}
    {regs : RegFile → Bus → RegFile}
    (hexec : ∀ s, exec i s = if holds s.rf cc then
      done { s with bus := s.bus.perform (calls s.rf s.bus) } (regs s.rf s.bus) n else done s s.rf 0)
    (hextra : ∀ r, extraCycles i r = if holds r cc then n else 0)
    (hacc : ∀ r u, accesses i r = if holds r cc then (calls r u).map accessOf else [])
    (hwrites : ∀ r u, WritesOnly (destinations i) (flagsWritten i) (writesSp i) (transfers i) r (regs r u))
    (halike : ∀ r q u, AlikeButNH r q → calls q u = calls r u ∧ AlikeButNH (regs r u) (regs q u)) :
    HasMeaning i := by
  refine ⟨fun r u => if holds r cc then calls r u else [], fun r u => if holds r cc then regs r u else r,
    fun s => ?_, fun r u => ?_, fun r u => ?_, fun _ _ r q u h => ?_⟩
  · rw [hexec, hextra]
    split <;> rfl
  · rw [hacc r u]
    split <;> rfl
  · split
    · exact hwrites r u
    · exact .refl r
  · rw [h.holds_eq]
    split
    · exact halike r q u h
    · exact ⟨rfl, h⟩

/-! ## A primitive on an operand -/

theorem HasMeaning.accR8 {o : R8} {prim : Byte → RegFile → RegFile} (hexec : ∀ s, exec i s = Machine.accR8 prim o s)
    (hextra : ∀ r, extraCycles i r = 0) (hacc : ∀ r, accesses i r = operandRead o r)
    (hprim : AccPrim (destinations i) (flagsWritten i) prim) : HasMeaning i := by
  by_cases ho : o = .indHl
  · subst ho
    exact .read (fun s => by rw [hexec, hextra]; exact accIndHl_eq_done prim s) hacc (fun _ _ => rfl)
      (fun v r => hprim.writes v r _ _) fun v r q h => .of_eq (hprim.alike v r q h)
  · refine .pure (g := fun r => prim (register r o) r) (fun s => by rw [hexec, hextra, accR8_eq_done ho])
      (fun r => by rw [hacc, operandRead, if_neg ho]) (fun r => hprim.writes _ r _ _) fun _ r q h => .of_eq ?_
    rw [h.congr (g := (register · o)) fun _ _ => by cases o <;> rfl]
    exact hprim.alike _ r q h

theorem HasMeaning.accIndHl {prim : Byte → RegFile → RegFile} (hexec : ∀ s, exec i s = Machine.accIndHl prim s)
    (hextra : ∀ r, extraCycles i r = 0) (hacc : ∀ r, accesses i r = [(false, hl r)])
    (hprim : AccPrim (destinations i) (flagsWritten i) prim) : HasMeaning i :=
  .accR8 (o := .indHl) hexec hextra hacc hprim

theorem HasMeaning.accD8 {v : Byte} {prim : Byte → RegFile → RegFile} (hexec : ∀ s, exec i s = Machine.accD8 prim v s)
    (hextra : ∀ r, extraCycles i r = 0) (hacc : ∀ r, accesses i r = [])
    (hprim : AccPrim (destinations i) (flagsWritten i) prim) : HasMeaning i :=
  .pure (fun s => by rw [hexec, hextra]; exact accD8_eq_done prim v s) hacc (fun r => hprim.writes v r _ _)
    fun _ r q h => .of_eq (hprim.alike v r q h)

theorem HasMeaning.modIndHl {prim : Byte → RegFile → Byte × RegFile} (hexec : ∀ s, exec i s = Machine.modIndHl prim s)
    (hextra : ∀ r, extraCycles i r = 0) (hacc : ∀ r, accesses i r = [(false, hl r), (true, hl r)])
    (hdest : destinations i = []) (hprim : ModPrim (flagsWritten i) prim) : HasMeaning i :=
  .readWriteHl (fun s => by rw [hexec, hextra, modIndHl_eq_done]) hacc
    (fun x r => hdest ▸ hprim.writes x r _ _) hprim.alike

theorem HasMeaning.modR8 {o : R8} {prim : Byte → RegFile → Byte × RegFile} (hexec : ∀ s, exec i s = Machine.modR8 prim o s)
    (hextra : ∀ r, extraCycles i r = 0) (hacc : ∀ r, accesses i r = operandChange o r)
    (hdest : destinations i = idOf o) (hprim : ModPrim (flagsWritten i) prim) : HasMeaning i := by
  by_cases ho : o = .indHl
  · subst ho
    exact .modIndHl (fun s => (hexec s).trans (hprim.modR8_indHl s)) hextra hacc hdest hprim
  · refine .pure (g := fun r => withRegister (prim (register r o) r).2 o (prim (register r o) r).1)
      (fun s => by rw [hexec, hextra, modR8_eq_done ho]) (fun r => by rw [hacc, operandChange, if_neg ho])
      (fun r => hdest ▸ (hprim.writes _ r _ _).withRegister o _) fun _ r q h => ?_
    obtain ⟨hbyte, hregs⟩ := hprim.alike (register r o) r q h
    rw [h.congr (g := (register · o)) fun _ _ => by cases o <;> rfl, hbyte]
    exact hregs.map (g := (withRegister · o _)) fun _ _ => by cases o <;> rfl

theorem HasMeaning.modA {prim : Byte → RegFile → Byte × RegFile} (hexec : ∀ s, exec i s = Machine.modA prim s)
    (hextra : ∀ r, extraCycles i r = 0) (hacc : ∀ r, accesses i r = []) (hdest : destinations i = [.a])
    (hprim : ModPrim (flagsWritten i) prim) : HasMeaning i :=
  .modR8 (o := .a) hexec hextra hacc hdest hprim

end

end Sys2Proof.Machine

namespace Sys2Proof.Machine

open Sys2Proof.Spec

/-! ## Loads with an operand that may be `(HL)` (41_engine.md R125) -/

/-- A value goes to the operand: to the register, or to the byte at HL. -/
theorem hasMeaning_ldRD8 (dst : R8) (v : Byte) : HasMeaning (.ldRD8 dst v) := by
  by_cases hdst : dst = .indHl
  · subst hdst
    exact .write (addr := hl) (val := fun _ => v) (g := id) (exec_ldIndHlD8 v) (fun _ => rfl) (fun _ _ => rfl)
      (fun _ _ => rfl) .refl fun _ _ h => h
  · exact .pure (g := (withRegister · dst v)) (exec_ldRD8 hdst v) (fun _ => if_neg hdst)
      (fun r => (WritesOnly.refl r).withRegister dst v)
      fun _ _ _ h => h.map (g := (withRegister · dst v)) fun _ _ => by cases dst <;> rfl

theorem hasMeaning_ldRIndHl (dst : R8) : HasMeaning (.ldRIndHl dst) := by
  by_cases hdst : dst = .indHl
  · subst hdst
    exact .readWriteHl (prim := fun x r => (x, r)) (fun s => by rw [← RegFile.hl_eq]; rfl) (fun _ => rfl)
      (fun _ r => .refl r) fun _ _ _ h => ⟨rfl, h⟩
  · exact .read (addr := hl) (g := fun v r => withRegister r dst v) (exec_ldRIndHl hdst)
      (fun r => congrArg _ (if_neg hdst)) (fun _ _ => rfl) (fun v r => (WritesOnly.refl r).withRegister dst v)
      fun v _ _ h => h.map (g := (withRegister · dst v)) fun _ _ => by cases dst <;> rfl

theorem hasMeaning_ldIndHlR (src : R8) : HasMeaning (.ldIndHlR src) := by
  by_cases hsrc : src = .indHl
  · subst hsrc
    exact .readWriteHl (prim := fun x r => (x, r)) (fun s => by rw [← RegFile.hl_eq]; rfl) (fun _ => rfl)
      (fun _ r => .refl r) fun _ _ _ h => ⟨rfl, h⟩
  · exact .write (addr := hl) (val := (register · src)) (g := id) (exec_ldIndHlR hsrc)
      (fun r => congrArg (· ++ [(true, hl r)]) (if_neg hsrc)) (fun _ _ => rfl)
      (fun _ _ => by cases src <;> rfl) .refl fun _ _ h => h

/-- What an instruction means, another means that does the same under the same tables. -/
theorem HasMeaning.of_exec_eq {i j : Instr} (h : HasMeaning j) (hexec : ∀ s, exec i s = exec j s)
    (hextra : extraCycles i = extraCycles j) (hacc : accesses i = accesses j) (hdest : destinations i = destinations j)
    (hfl : flagsWritten i = flagsWritten j) (hsp : writesSp i = writesSp j) (hpc : transfers i = transfers j)
    (hdaa : j ≠ .daa) (haf : j ≠ .pushRr .af) : HasMeaning i := by
  obtain ⟨calls, regs, hj⟩ := h
  exact ⟨calls, regs, fun s => by rw [hexec, hextra, hj.exec_eq], fun r u => by rw [hacc, hj.accesses_eq],
    fun r u => by rw [hdest, hfl, hsp, hpc]; exact hj.writes r u, fun _ _ => hj.alike hdaa haf⟩

theorem hasMeaning_ldRR (dst src : R8) : HasMeaning (.ldRR dst src) := by
  by_cases hdst : dst = .indHl
  · subst hdst
    exact (hasMeaning_ldIndHlR src).of_exec_eq (fun s => exec_ldRR_indHl s src) rfl rfl rfl rfl rfl rfl nofun nofun
  · by_cases hsrc : src = .indHl
    · subst hsrc
      exact (hasMeaning_ldRIndHl dst).of_exec_eq (fun _ => rfl) rfl rfl rfl rfl rfl rfl nofun nofun
    · refine .pure (g := fun r => withRegister r dst (register r src)) (exec_ldRR hdst hsrc)
        (fun _ => congrArg₂ (· ++ ·) (if_neg hsrc) (if_neg hdst))
        (fun r => (WritesOnly.refl r).withRegister dst _)
        fun _ r q h => h.map (g := fun r => withRegister r dst (register r src)) fun _ _ => ?_
      cases dst <;> cases src <;> rfl

/-! ## Loads and stores of A -/

theorem HasMeaning.loadA {i : Instr} {addr : RegFile → Word}
    (hexec : ∀ s, exec i s = done (afterRead (addr s.rf) s) { s.rf with a := s.bus.answer (addr s.rf) } 0)
    (hextra : ∀ r, extraCycles i r = 0) (hacc : ∀ r, accesses i r = [(false, addr r)])
    (haddr : ∀ r f, addr { r with f := f } = addr r) (hdest : destinations i = [.a]) : HasMeaning i :=
  .read (g := fun v r => withRegister r .a v) (fun s => by rw [hexec, hextra]; rfl) hacc haddr
    (fun v r => hdest ▸ (WritesOnly.refl r).withRegister .a v)
    fun v _ _ h => h.map (g := (withRegister · .a v)) fun _ _ => rfl

theorem HasMeaning.storeA {i : Instr} {addr : RegFile → Word}
    (hexec : ∀ s, exec i s = done (afterWrite (addr s.rf) s.rf.a s) s.rf 0)
    (hextra : ∀ r, extraCycles i r = 0) (hacc : ∀ r, accesses i r = [(true, addr r)])
    (haddr : ∀ r f, addr { r with f := f } = addr r) : HasMeaning i :=
  .write (val := RegFile.a) (g := id) (fun s => by rw [hexec, hextra]; rfl) hacc haddr (fun _ _ => rfl) .refl
    fun _ _ h => h

/-! ## Changes of a pair, SP or PC alone -/

theorem HasMeaning.setPair {i : Instr} {p : R16} {v : RegFile → Word}
    (hexec : ∀ s, exec i s = done s (withPair s.rf p (v s.rf)) 0) (hextra : ∀ r, extraCycles i r = 0)
    (hacc : ∀ r, accesses i r = []) (hv : ∀ r f, v { r with f := f } = v r) (hdest : destinations i = idsOfPair p)
    (hsp : p = .sp → writesSp i = true) : HasMeaning i := by
  refine .pure (g := fun r => withPair r p (v r)) (fun s => by rw [hexec, hextra]) hacc
    (fun r => hdest ▸ (WritesOnly.refl r).withPair p _ hsp)
    fun _ _ _ h => h.map (g := fun r => withPair r p (v r)) fun r f => ?_
  simp only [hv]
  cases p <;> rfl

theorem HasMeaning.setPc {i : Instr} {v : RegFile → Word} (hexec : ∀ s, exec i s = done s { s.rf with pc := v s.rf } 0)
    (hextra : ∀ r, extraCycles i r = 0) (hacc : ∀ r, accesses i r = []) (hv : ∀ r f, v { r with f := f } = v r)
    (hdest : destinations i = []) (hpc : transfers i = true) : HasMeaning i := by
  refine .pure (g := fun r => { r with pc := v r }) (fun s => by rw [hexec, hextra]) hacc
    (fun r => hdest ▸ hpc ▸ (WritesOnly.refl r).setPc (v r))
    fun _ _ _ h => h.map (g := fun r => { r with pc := v r }) fun r f => ?_
  simp only [hv]

/-! ## The primitives of more than one register -/

theorem hasMeaning_addHlRr (p : R16) : HasMeaning (.addHlRr p) := by
  refine .pure (g := fun r => withPair { r with f := pairSumFlags r (pair r p) } .hl
    (BitVec.ofNat 16 ((hl r).toNat + (pair r p).toNat))) (exec_addHlRr p)
    (fun _ => rfl)
    (fun r => (WritesOnly.setFlags (fl := (false, true, true, true)) r nofun (fun _ => rfl) nofun nofun nofun).withPair .hl _ nofun)
    fun _ r q h => .of_eq ?_
  have hsum : pairSumFlags q (pair q p) = pairSumFlags r (pair r p) := by
    rw [h.congr (g := (pair · p)) fun _ _ => by cases p <;> rfl, pairSumFlags, h.zero_eq,
      h.congr (g := hl) fun _ _ => rfl]
    rfl
  rw [hsum, h.eq_of_writeF, h.congr (g := hl) fun _ _ => rfl, h.congr (g := (pair · p)) fun _ _ => by cases p <;> rfl]

theorem hasMeaning_ldHlSpE8 (e : Byte) : HasMeaning (.ldHlSpE8 e) := by
  refine .pure (g := fun r => withPair { r with f := displacedFlags r e } .hl (displaced r.sp e)) (exec_ldHlSpE8 e)
    (fun _ => rfl) (fun r => (WritesOnly.setAllFlags _ _ _ _ r).withPair .hl _ nofun) fun _ r q h => .of_eq ?_
  exact h.congr (g := fun r => withPair { r with f := displacedFlags r e } .hl (displaced r.sp e)) fun _ _ => rfl

theorem hasMeaning_addSpE8 (e : Byte) : HasMeaning (.addSpE8 e) := by
  refine .pure (g := fun r => { r with f := displacedFlags r e, sp := displaced r.sp e }) (exec_addSpE8 e)
    (fun _ => rfl) (fun r => (WritesOnly.setAllFlags _ _ _ _ r).setSp _) fun _ r q h => .of_eq ?_
  exact h.congr (g := fun r => { r with f := displacedFlags r e, sp := displaced r.sp e }) fun _ _ => rfl

theorem hasMeaning_daa : HasMeaning .daa :=
  .pure (g := adjusted) (fun s => ret_withRf_eq_done (daa_eq_adjusted s.rf)) (fun _ => rfl)
    (fun r => (WritesOnly.setFlags (fl := (true, false, true, true)) r nofun nofun (fun _ => rfl) nofun nofun).withRegister .a _)
    fun h => absurd rfl h

/-- `CPL`, `SCF` and `CCF`: A and F, F from Z and C. -/
theorem HasMeaning.ofFlags {i : Instr} {a : Byte → Byte} {f : Bool → Bool → Byte}
    (hexec : ∀ s, exec i s = done s { s.rf with a := a s.rf.a, f := f (zOf s.rf) (cOf s.rf) } 0)
    (hextra : ∀ r, extraCycles i r = 0) (hacc : ∀ r, accesses i r = [])
    (hwrites : ∀ r, WritesOnly (destinations i) (flagsWritten i) (writesSp i) (transfers i) r
      { r with a := a r.a, f := f (zOf r) (cOf r) }) : HasMeaning i := by
  refine .pure (g := fun r => { r with a := a r.a, f := f (zOf r) (cOf r) }) (fun s => by rw [hexec, hextra]) hacc
    hwrites fun _ r q h => .of_eq ?_
  simp only [h.zero_eq, h.carry_eq]
  exact h.congr (g := fun r' => { r' with a := a r'.a, f := f (zOf r) (cOf r) }) fun _ _ => rfl

/-! ## The stack -/

theorem hasMeaning_pushRr (p : R16Stk) : HasMeaning (.pushRr p) := by
  refine .push (val := (stackPair · p)) (g := fun r => { r with sp := r.sp - 2 }) (pushPair p).2 (fun _ => rfl)
    (fun haf r f => ?_) (fun r => (WritesOnly.refl r).setSp _)
    fun _ _ h => h.map (g := fun r => { r with sp := r.sp - 2 }) fun _ _ => rfl
  cases p with
  | af => exact absurd rfl haf
  | _ => rfl

theorem hasMeaning_popRr (p : R16Stk) : HasMeaning (.popRr p) := by
  refine .pop (g := fun v r => withStackPair { r with sp := r.sp + 2 } p v) (popPair p).2 (fun _ => rfl)
    (fun v r => .withStackPair p _ r v) fun v r q h => ?_
  cases p with
  | af => exact .of_eq (h.congr (g := fun r => withStackPair { r with sp := r.sp + 2 } .af v) fun _ _ => rfl)
  | _ => exact h.map (g := fun r => withStackPair { r with sp := r.sp + 2 } _ v) fun _ _ => rfl

theorem WritesOnly.call {ds : List Id8} {fl : Bool × Bool × Bool × Bool} (r : RegFile) (v w : Word) :
    WritesOnly ds fl true true r { r with sp := v, pc := w } :=
  .of_f_eq rfl (fun id _ _ => by cases id <;> rfl) nofun nofun

theorem HasMeaning.call {i : Instr} {a : Word} (hexec : ∀ s, exec i s = called s a 0)
    (hextra : ∀ r, extraCycles i r = 0) (hacc : ∀ r, accesses i r = pushes r) (hsp : writesSp i = true)
    (hpc : transfers i = true) : HasMeaning i :=
  .push (val := RegFile.pc) (g := fun r => { r with sp := r.sp - 2, pc := a }) (fun s => by rw [hexec, hextra]; rfl)
    hacc (fun _ _ _ => rfl) (fun r => by rw [hsp, hpc]; exact .call r _ _)
    fun _ _ h => h.map (g := fun r => { r with sp := r.sp - 2, pc := a }) fun _ _ => rfl

theorem hasMeaning_ret : HasMeaning .ret :=
  .pop (g := fun v r => { r with sp := r.sp + 2, pc := v }) (fun s => ret_pop16_setPc_eq_returned 0 s) (fun _ => rfl)
    (fun v r => .call r _ v) fun v _ _ h => h.map (g := fun r => { r with sp := r.sp + 2, pc := v }) fun _ _ => rfl

/-! ## Accesses that step HL -/

/-- `LD A,(HL+)` and `LD A,(HL-)`. -/
theorem HasMeaning.loadAStepHl {i : Instr} {next : Word → Word}
    (hexec : ∀ s, exec i s = done (afterRead (hl s.rf) s)
      (withPair { s.rf with a := s.bus.answer (hl s.rf) } .hl (next (hl s.rf))) 0)
    (hextra : ∀ r, extraCycles i r = 0) (hacc : ∀ r, accesses i r = [(false, hl r)])
    (hdest : destinations i = [.a, .h, .l]) : HasMeaning i :=
  .read (g := fun v r => withPair { r with a := v } .hl (next (hl r))) (fun s => by rw [hexec, hextra]) hacc
    (fun _ _ => rfl)
    (fun v r => hdest ▸ .of_f_eq rfl (fun id _ hid => by cases id <;> simp_all [withPair]) (fun _ => rfl) fun _ => rfl)
    fun v _ _ h => h.map (g := fun r => withPair { r with a := v } .hl (next (hl r))) fun _ _ => rfl

/-- `LD (HL+),A` and `LD (HL-),A`. -/
theorem HasMeaning.storeAStepHl {i : Instr} {next : Word → Word}
    (hexec : ∀ s, exec i s = done (afterWrite (hl s.rf) s.rf.a s) (withPair s.rf .hl (next (hl s.rf))) 0)
    (hextra : ∀ r, extraCycles i r = 0) (hacc : ∀ r, accesses i r = [(true, hl r)])
    (hdest : destinations i = [.h, .l]) : HasMeaning i :=
  .write (val := RegFile.a) (g := fun r => withPair r .hl (next (hl r))) (fun s => by rw [hexec, hextra]) hacc
    (fun _ _ => rfl) (fun _ _ => rfl) (fun r => hdest ▸ (WritesOnly.refl r).withPair .hl _ nofun)
    fun _ _ h => h.map (g := fun r => withPair r .hl (next (hl r))) fun _ _ => rfl

/-- The two writes of `LD (a16),SP`. -/
theorem hasMeaning_ldIndA16Sp (a : Word) : HasMeaning (.ldIndA16Sp a) :=
  ⟨fun r _ => [.write a (low r.sp), .write (a + 1) (high r.sp)], fun r _ => r,
    fun s => by rw [exec_ldIndA16Sp, ← inc16_eq_ofNat]; rfl, fun _ _ => rfl, fun r _ => .refl r,
    fun _ _ r q _ h => by rw [h.congr (g := RegFile.sp) fun _ _ => rfl]; exact ⟨rfl, h⟩⟩

/-! ## Conditional control transfers -/

theorem hasMeaning_jpCcA16 (cc : Cond) (a : Word) : HasMeaning (.jpCcA16 cc a) :=
  .conditional (calls := fun _ _ => []) (regs := fun r _ => { r with pc := a }) (exec_jpCcA16 cc a) (fun _ => rfl)
    (fun r _ => (ite_self (c := holds r cc = true) []).symm) (fun r _ => (WritesOnly.refl r).setPc a)
    fun _ _ _ h => ⟨rfl, h.map (g := fun r => { r with pc := a }) fun _ _ => rfl⟩

theorem hasMeaning_jrCcE8 (cc : Cond) (e : Byte) : HasMeaning (.jrCcE8 cc e) :=
  .conditional (calls := fun _ _ => []) (regs := fun r _ => { r with pc := displaced r.pc e }) (exec_jrCcE8 cc e)
    (fun _ => rfl) (fun r _ => (ite_self (c := holds r cc = true) []).symm) (fun r _ => (WritesOnly.refl r).setPc _)
    fun _ _ _ h => ⟨rfl, h.map (g := fun r => { r with pc := displaced r.pc e }) fun _ _ => rfl⟩

theorem hasMeaning_callCcA16 (cc : Cond) (a : Word) : HasMeaning (.callCcA16 cc a) :=
  .conditional (calls := fun r _ => [.write (r.sp - 1) (high r.pc), .write (r.sp - 2) (low r.pc)])
    (regs := fun r _ => { r with sp := r.sp - 2, pc := a }) (exec_callCcA16 cc a) (fun _ => rfl) (fun _ _ => rfl)
    (fun r _ => .call r _ a)
    fun r q _ h => by
      rw [h.congr (g := RegFile.sp) fun _ _ => rfl, h.congr (g := RegFile.pc) fun _ _ => rfl]
      exact ⟨rfl, h.map (g := fun q => { q with sp := r.sp - 2, pc := a }) fun _ _ => rfl⟩

theorem hasMeaning_retCc (cc : Cond) : HasMeaning (.retCc cc) :=
  .conditional (calls := fun r u => popCalls r.sp u) (regs := fun r u => { r with sp := r.sp + 2, pc := popValue r.sp u })
    (exec_retCc cc) (fun _ => rfl) (fun _ _ => rfl) (fun r _ => .call r _ _)
    fun r q u h => by
      rw [h.congr (g := RegFile.sp) fun _ _ => rfl]
      exact ⟨rfl, h.map (g := fun q => { q with sp := r.sp + 2, pc := popValue r.sp u }) fun _ _ => rfl⟩

/-! ## Every instruction -/

/-- Every instruction but the seventeen stubs has a meaning under the tables. -/
theorem hasMeaning_of_not_stubbed {i : Instr} (h : stubbed i = false) : HasMeaning i := by
  cases i with
  | stop | halt | di | ei | reti | prefixCb | illegalD3 | illegalDB | illegalDD | illegalE3 | illegalE4 | illegalEB
  | illegalEC | illegalED | illegalF4 | illegalFC | illegalFD => cases h
  | nop => exact .pure (g := id) (fun _ => rfl) (fun _ => rfl) .refl fun _ _ _ h => h
  | ldRR dst src => exact hasMeaning_ldRR dst src
  | ldRD8 dst v => exact hasMeaning_ldRD8 dst v
  | ldRIndHl dst => exact hasMeaning_ldRIndHl dst
  | ldIndHlR src => exact hasMeaning_ldIndHlR src
  | ldIndHlD8 v =>
    exact (hasMeaning_ldRD8 .indHl v).of_exec_eq (fun _ => rfl) rfl rfl rfl rfl rfl rfl nofun nofun
  | ldAIndBc =>
    exact .loadA (addr := fun r => word r.b r.c) (fun s => loadA_eq_done (mk16_eq_word s.rf.b s.rf.c) s)
      (fun _ => rfl) (fun _ => rfl) (fun _ _ => rfl) rfl
  | ldAIndDe =>
    exact .loadA (addr := fun r => word r.d r.e) (fun s => loadA_eq_done (mk16_eq_word s.rf.d s.rf.e) s)
      (fun _ => rfl) (fun _ => rfl) (fun _ _ => rfl) rfl
  | ldAIndC =>
    exact .loadA (addr := fun r => page r.c) (fun s => loadA_eq_done (highPage_eq_page s.rf.c) s)
      (fun _ => rfl) (fun _ => rfl) (fun _ _ => rfl) rfl
  | ldAIndA16 a =>
    exact .loadA (addr := fun _ => a) (fun s => loadA_eq_done rfl s) (fun _ => rfl) (fun _ => rfl) (fun _ _ => rfl) rfl
  | ldhAIndA8 n =>
    exact .loadA (addr := fun _ => page n) (fun s => loadA_eq_done (highPage_eq_page n) s) (fun _ => rfl)
      (fun _ => rfl) (fun _ _ => rfl) rfl
  | ldIndBcA =>
    exact .storeA (addr := fun r => word r.b r.c) (fun s => storeA_eq_done (mk16_eq_word s.rf.b s.rf.c) s)
      (fun _ => rfl) (fun _ => rfl) fun _ _ => rfl
  | ldIndDeA =>
    exact .storeA (addr := fun r => word r.d r.e) (fun s => storeA_eq_done (mk16_eq_word s.rf.d s.rf.e) s)
      (fun _ => rfl) (fun _ => rfl) fun _ _ => rfl
  | ldIndCA =>
    exact .storeA (addr := fun r => page r.c) (fun s => storeA_eq_done (highPage_eq_page s.rf.c) s)
      (fun _ => rfl) (fun _ => rfl) fun _ _ => rfl
  | ldIndA16A a =>
    exact .storeA (addr := fun _ => a) (fun s => storeA_eq_done rfl s) (fun _ => rfl) (fun _ => rfl) fun _ _ => rfl
  | ldhIndA8A n =>
    exact .storeA (addr := fun _ => page n) (fun s => storeA_eq_done (highPage_eq_page n) s) (fun _ => rfl)
      (fun _ => rfl) fun _ _ => rfl
  | ldAIndHlInc =>
    exact .loadAStepHl (next := fun w => BitVec.ofNat 16 (w.toNat + 1))
      (fun s => loadA_setHl_eq_done (inc16_hl s.rf) s) (fun _ => rfl) (fun _ => rfl) rfl
  | ldAIndHlDec =>
    exact .loadAStepHl (next := fun w => BitVec.ofNat 16 (w.toNat + 65535))
      (fun s => loadA_setHl_eq_done (dec16_hl s.rf) s) (fun _ => rfl) (fun _ => rfl) rfl
  | ldIndHlIncA =>
    exact .storeAStepHl (next := fun w => BitVec.ofNat 16 (w.toNat + 1))
      (fun s => storeA_setHl_eq_done (inc16_hl s.rf) s) (fun _ => rfl) (fun _ => rfl) rfl
  | ldIndHlDecA =>
    exact .storeAStepHl (next := fun w => BitVec.ofNat 16 (w.toNat + 65535))
      (fun s => storeA_setHl_eq_done (dec16_hl s.rf) s) (fun _ => rfl) (fun _ => rfl) rfl
  | ldIndA16Sp a => exact hasMeaning_ldIndA16Sp a
  | ldRrD16 p v =>
    exact .setPair (v := fun _ => v) (exec_ldRrD16 p v) (fun _ => rfl) (fun _ => rfl) (fun _ _ => rfl) rfl fun h => h ▸ rfl
  | incRr p =>
    exact .setPair (v := fun r => BitVec.ofNat 16 ((pair r p).toNat + 1)) (exec_incRr p) (fun _ => rfl) (fun _ => rfl)
      (fun _ _ => by cases p <;> rfl) rfl fun h => h ▸ rfl
  | decRr p =>
    exact .setPair (v := fun r => BitVec.ofNat 16 ((pair r p).toNat + 65535)) (exec_decRr p) (fun _ => rfl)
      (fun _ => rfl) (fun _ _ => by cases p <;> rfl) rfl fun h => h ▸ rfl
  | ldSpHl => exact .setPair (p := .sp) (v := hl) exec_ldSpHl (fun _ => rfl) (fun _ => rfl) (fun _ _ => rfl) rfl fun _ => rfl
  | addHlRr p => exact hasMeaning_addHlRr p
  | addSpE8 e => exact hasMeaning_addSpE8 e
  | ldHlSpE8 e => exact hasMeaning_ldHlSpE8 e
  | pushRr p => exact hasMeaning_pushRr p
  | popRr p => exact hasMeaning_popRr p
  | jpA16 a =>
    exact .setPc (v := fun _ => a) (ret_setPc_eq_done 0 rfl) (fun _ => rfl) (fun _ => rfl) (fun _ _ => rfl) rfl rfl
  | jpHl =>
    exact .setPc (v := hl) (fun s => ret_setPc_eq_done 0 s.rf.hl_eq s) (fun _ => rfl) (fun _ => rfl) (fun _ _ => rfl)
      rfl rfl
  | jrE8 e =>
    exact .setPc (v := fun r => displaced r.pc e) (fun s => ret_setPc_eq_done 0 (addDisp_eq_displaced s.rf.pc e) s)
      (fun _ => rfl) (fun _ => rfl) (fun _ _ => rfl) rfl rfl
  | jpCcA16 cc a => exact hasMeaning_jpCcA16 cc a
  | jrCcE8 cc e => exact hasMeaning_jrCcE8 cc e
  | callA16 a => exact .call (ret_push16_setPc_eq_called 0 rfl) (fun _ => rfl) (fun _ => rfl) rfl rfl
  | callCcA16 cc a => exact hasMeaning_callCcA16 cc a
  | rstT t => exact .call (ret_push16_setPc_eq_called 0 rfl) (fun _ => rfl) (fun _ => rfl) rfl rfl
  | ret => exact hasMeaning_ret
  | retCc cc => exact hasMeaning_retCc cc
  | daa => exact hasMeaning_daa
  | cpl =>
    exact .ofFlags (a := fun a => BitVec.ofNat 8 (255 - a.toNat)) (f := fun z c => flagByte z true true c)
      (fun s => ret_withRf_eq_done (cpl_eq s.rf)) (fun _ => rfl) (fun _ => rfl)
      fun r => (WritesOnly.setFlags (fl := (false, true, true, false)) r nofun (fun _ => rfl) nofun nofun
        fun _ => rfl).withRegister .a _
  | scf =>
    exact .ofFlags (a := id) (f := fun z _ => flagByte z false false true)
      (fun s => ret_withRf_eq_done (scf_eq s.rf)) (fun _ => rfl) (fun _ => rfl)
      fun r => .setFlags r nofun (fun _ => rfl) nofun nofun nofun
  | ccf =>
    exact .ofFlags (a := id) (f := fun z c => flagByte z false false (!c))
      (fun s => ret_withRf_eq_done (ccf_eq s.rf)) (fun _ => rfl) (fun _ => rfl)
      fun r => .setFlags r nofun (fun _ => rfl) nofun nofun nofun
  | addAR o | adcAR o => exact .accR8 (fun _ => rfl) (fun _ => rfl) (fun _ => rfl) (add8_prim _)
  | addAIndHl | adcAIndHl => exact .accIndHl (fun _ => rfl) (fun _ => rfl) (fun _ => rfl) (add8_prim _)
  | addAD8 v | adcAD8 v => exact .accD8 (fun _ => rfl) (fun _ => rfl) (fun _ => rfl) (add8_prim _)
  | subR o | sbcAR o => exact .accR8 (fun _ => rfl) (fun _ => rfl) (fun _ => rfl) (sub8_prim _)
  | subIndHl | sbcAIndHl => exact .accIndHl (fun _ => rfl) (fun _ => rfl) (fun _ => rfl) (sub8_prim _)
  | subD8 v | sbcAD8 v => exact .accD8 (fun _ => rfl) (fun _ => rfl) (fun _ => rfl) (sub8_prim _)
  | andR o => exact .accR8 (fun _ => rfl) (fun _ => rfl) (fun _ => rfl) (logical_prim and8_eq_logical)
  | andIndHl => exact .accIndHl (fun _ => rfl) (fun _ => rfl) (fun _ => rfl) (logical_prim and8_eq_logical)
  | andD8 v => exact .accD8 (fun _ => rfl) (fun _ => rfl) (fun _ => rfl) (logical_prim and8_eq_logical)
  | xorR o => exact .accR8 (fun _ => rfl) (fun _ => rfl) (fun _ => rfl) (logical_prim xor8_eq_logical)
  | xorIndHl => exact .accIndHl (fun _ => rfl) (fun _ => rfl) (fun _ => rfl) (logical_prim xor8_eq_logical)
  | xorD8 v => exact .accD8 (fun _ => rfl) (fun _ => rfl) (fun _ => rfl) (logical_prim xor8_eq_logical)
  | orR o => exact .accR8 (fun _ => rfl) (fun _ => rfl) (fun _ => rfl) (logical_prim or8_eq_logical)
  | orIndHl => exact .accIndHl (fun _ => rfl) (fun _ => rfl) (fun _ => rfl) (logical_prim or8_eq_logical)
  | orD8 v => exact .accD8 (fun _ => rfl) (fun _ => rfl) (fun _ => rfl) (logical_prim or8_eq_logical)
  | cpR o => exact .accR8 (fun _ => rfl) (fun _ => rfl) (fun _ => rfl) compare_prim
  | cpIndHl => exact .accIndHl (fun _ => rfl) (fun _ => rfl) (fun _ => rfl) compare_prim
  | cpD8 v => exact .accD8 (fun _ => rfl) (fun _ => rfl) (fun _ => rfl) compare_prim
  | bitR b o => exact .accR8 (fun _ => rfl) (fun _ => rfl) (fun _ => rfl) (testBit_prim b)
  | bitIndHl b => exact .accIndHl (fun _ => rfl) (fun _ => rfl) (fun _ => rfl) (testBit_prim b)
  | incR o => exact .modR8 (fun _ => rfl) (fun _ => rfl) (fun _ => rfl) rfl inc8_prim
  | incIndHl => exact .modIndHl (fun _ => rfl) (fun _ => rfl) (fun _ => rfl) rfl inc8_prim
  | decR o => exact .modR8 (fun _ => rfl) (fun _ => rfl) (fun _ => rfl) rfl dec8_prim
  | decIndHl => exact .modIndHl (fun _ => rfl) (fun _ => rfl) (fun _ => rfl) rfl dec8_prim
  | rlca => exact .modA (fun _ => rfl) (fun _ => rfl) (fun _ => rfl) rfl (shift_prim (rlc_eq false))
  | rrca => exact .modA (fun _ => rfl) (fun _ => rfl) (fun _ => rfl) rfl (shift_prim (rrc_eq false))
  | rla => exact .modA (fun _ => rfl) (fun _ => rfl) (fun _ => rfl) rfl (shift_prim (rl_eq false))
  | rra => exact .modA (fun _ => rfl) (fun _ => rfl) (fun _ => rfl) rfl (shift_prim (rr_eq false))
  | rlcR o => exact .modR8 (fun _ => rfl) (fun _ => rfl) (fun _ => rfl) rfl (shift_prim (rlc_eq true))
  | rlcIndHl => exact .modIndHl (fun _ => rfl) (fun _ => rfl) (fun _ => rfl) rfl (shift_prim (rlc_eq true))
  | rrcR o => exact .modR8 (fun _ => rfl) (fun _ => rfl) (fun _ => rfl) rfl (shift_prim (rrc_eq true))
  | rrcIndHl => exact .modIndHl (fun _ => rfl) (fun _ => rfl) (fun _ => rfl) rfl (shift_prim (rrc_eq true))
  | rlR o => exact .modR8 (fun _ => rfl) (fun _ => rfl) (fun _ => rfl) rfl (shift_prim (rl_eq true))
  | rlIndHl => exact .modIndHl (fun _ => rfl) (fun _ => rfl) (fun _ => rfl) rfl (shift_prim (rl_eq true))
  | rrR o => exact .modR8 (fun _ => rfl) (fun _ => rfl) (fun _ => rfl) rfl (shift_prim (rr_eq true))
  | rrIndHl => exact .modIndHl (fun _ => rfl) (fun _ => rfl) (fun _ => rfl) rfl (shift_prim (rr_eq true))
  | slaR o => exact .modR8 (fun _ => rfl) (fun _ => rfl) (fun _ => rfl) rfl (shift_prim sla_eq)
  | slaIndHl => exact .modIndHl (fun _ => rfl) (fun _ => rfl) (fun _ => rfl) rfl (shift_prim sla_eq)
  | sraR o => exact .modR8 (fun _ => rfl) (fun _ => rfl) (fun _ => rfl) rfl (shift_prim sra_eq)
  | sraIndHl => exact .modIndHl (fun _ => rfl) (fun _ => rfl) (fun _ => rfl) rfl (shift_prim sra_eq)
  | swapR o => exact .modR8 (fun _ => rfl) (fun _ => rfl) (fun _ => rfl) rfl (shift_prim swap_eq)
  | swapIndHl => exact .modIndHl (fun _ => rfl) (fun _ => rfl) (fun _ => rfl) rfl (shift_prim swap_eq)
  | srlR o => exact .modR8 (fun _ => rfl) (fun _ => rfl) (fun _ => rfl) rfl (shift_prim srl_eq)
  | srlIndHl => exact .modIndHl (fun _ => rfl) (fun _ => rfl) (fun _ => rfl) rfl (shift_prim srl_eq)
  | resR b o => exact .modR8 (fun _ => rfl) (fun _ => rfl) (fun _ => rfl) rfl (byte_prim (resBit b))
  | resIndHl b => exact .modIndHl (fun _ => rfl) (fun _ => rfl) (fun _ => rfl) rfl (byte_prim (resBit b))
  | setR b o => exact .modR8 (fun _ => rfl) (fun _ => rfl) (fun _ => rfl) rfl (byte_prim (setBit b))
  | setIndHl b => exact .modIndHl (fun _ => rfl) (fun _ => rfl) (fun _ => rfl) rfl (byte_prim (setBit b))

end Sys2Proof.Machine

/-! # Proofs: the frames, over all instructions

What `exec` can answer, once, and from it each frame statement. -/

namespace Sys2Proof.Machine

open Sys2Proof.Spec

/-! ## The stubs (60_exceptions.md R304) -/

theorem exec_stubbed {i : Instr} (h : stubbed i = true) (s : State) :
    exec i s = .next { s with fault := some (.unimplementedOpcode .t0 ((encode i).headD 0)) } := by
  cases i with
  | stop | halt | di | ei | reti | prefixCb | illegalD3 | illegalDB | illegalDD | illegalE3 | illegalE4 | illegalEB
  | illegalEC | illegalED | illegalF4 | illegalFC | illegalFD => rfl
  | _ => cases h

theorem accesses_stubbed {i : Instr} (h : stubbed i = true) (r : RegFile) : accesses i r = [] := by
  cases i with
  | stop | halt | di | ei | reti | prefixCb | illegalD3 | illegalDB | illegalDD | illegalE3 | illegalE4 | illegalEB
  | illegalEC | illegalED | illegalF4 | illegalFC | illegalFD => rfl
  | _ => cases h

/-- A stub of the byte stream is one of the sixteen opcodes that fault when fetched. -/
theorem encode_stubbed {i : Instr} (h : stubbed i = true) (hwf : WellFormed i = true) :
    ∃ op ∈ faultingOpcodes, encode i = [op] := by
  cases i with
  | prefixCb => cases hwf
  | stop | halt | di | ei | reti | illegalD3 | illegalDB | illegalDD | illegalE3 | illegalE4 | illegalEB | illegalEC
  | illegalED | illegalF4 | illegalFC | illegalFD => exact ⟨_, by decide, rfl⟩
  | _ => cases h

/-! ## What `exec` answers -/

/-- A stub latches its fault; any other instruction makes the calls and leaves the registers of its meaning. -/
theorem exec_next {i : Instr} {s t : State} (h : exec i s = .next t) :
    (stubbed i = true ∧ t = { s with fault := some (.unimplementedOpcode .t0 ((encode i).headD 0)) }) ∨
    (stubbed i = false ∧ ∃ calls regs, Meets i calls regs ∧
      t = { s with
        rf := regs s.rf s.bus
        extra := extraCycles i s.rf
        bus := s.bus.perform (calls s.rf s.bus) }) := by
  cases hi : stubbed i with
  | true =>
    rw [exec_stubbed hi] at h
    cases h
    exact .inl ⟨rfl, rfl⟩
  | false =>
    obtain ⟨calls, regs, hmeets⟩ := hasMeaning_of_not_stubbed hi
    rw [hmeets.exec_eq] at h
    cases h
    exact .inr ⟨rfl, calls, regs, hmeets, rfl⟩

theorem exists_exec_next (i : Instr) (s : State) : ∃ t, exec i s = .next t := by
  cases hi : stubbed i with
  | true => exact ⟨_, exec_stubbed hi s⟩
  | false =>
    obtain ⟨calls, regs, hmeets⟩ := hasMeaning_of_not_stubbed hi
    exact ⟨_, hmeets.exec_eq s⟩

theorem exec_writesOnly {i : Instr} {s t : State} (h : exec i s = .next t) :
    WritesOnly (destinations i) (flagsWritten i) (writesSp i) (transfers i) s.rf t.rf := by
  obtain ⟨-, rfl⟩ | ⟨-, calls, regs, hmeets, rfl⟩ := exec_next h
  · exact .refl s.rf
  · exact hmeets.writes s.rf s.bus

/-- The bus is left as the calls of the table leave it. -/
theorem exec_perform {i : Instr} {s t : State} (h : exec i s = .next t) :
    ∃ calls, calls.map accessOf = accesses i s.rf ∧ t.bus = s.bus.perform calls := by
  obtain ⟨hi, rfl⟩ | ⟨-, calls, regs, hmeets, rfl⟩ := exec_next h
  · exact ⟨[], (accesses_stubbed hi s.rf).symm, rfl⟩
  · exact ⟨calls s.rf s.bus, hmeets.accesses_eq s.rf s.bus, rfl⟩

/-! ## The frame statements -/

/-- Settles O33: the registers of the meaning are within its table. -/
theorem frameRegisters : Obligations.FrameRegisters := by
  unfold Obligations.FrameRegisters
  intro i s t h
  have hw := exec_writesOnly h
  exact ⟨hw.byte, hw.stack, hw.counter⟩

/-- Settles O34: the flags of the meaning are within its table. -/
theorem frameFlags : Obligations.FrameFlags := by
  unfold Obligations.FrameFlags
  intro i s t h
  have hw := exec_writesOnly h
  exact ⟨hw.zero, hw.subtract, hw.half, hw.carry, hw.flags⟩

/-- Settles O35: a call that writes is a store of the table. -/
theorem frameMemory : Obligations.FrameMemory := by
  unfold Obligations.FrameMemory
  intro i s t h a ha
  obtain ⟨calls, hcalls, hbus⟩ := exec_perform h
  rw [hbus]
  refine Bus.read_perform calls s.bus fun w hw => ha w ?_
  rw [hcalls] at hw
  exact List.mem_map.2 ⟨(true, w), List.mem_filter.2 ⟨hw, rfl⟩, rfl⟩

/-- Settles O36: the meaning writes the registers, the bus and the extra cycles only, a stub the latch only. -/
theorem frameEngine : Obligations.FrameEngine := by
  unfold Obligations.FrameEngine
  intro i s t h
  obtain ⟨hi, rfl⟩ | ⟨-, calls, regs, -, rfl⟩ := exec_next h
  · exact ⟨rfl, rfl, fun hn => absurd (hn.symm.trans hi) nofun⟩
  · exact ⟨rfl, rfl, fun _ => ⟨rfl, rfl⟩⟩

/-- Settles O37: the calls are logged, the latest first. -/
theorem busAccesses : Obligations.BusAccesses := by
  unfold Obligations.BusAccesses
  intro i s t h
  obtain ⟨calls, hcalls, hbus⟩ := exec_perform h
  exact ⟨calls.reverse, by rw [hbus, Bus.perform_log], by rw [List.reverse_reverse, hcalls]⟩

/-- Settles O38: the meaning makes the same calls and leaves like registers; a stub touches neither. -/
theorem onlyDaaAndPushReadNH : Obligations.OnlyDaaAndPushReadNH := by
  unfold Obligations.OnlyDaaAndPushReadNH
  intro i s q t u hdaa haf hq ht hu
  cases hi : stubbed i with
  | true =>
    rw [exec_stubbed hi] at ht hu
    cases ht
    cases hu
    exact ⟨hq, rfl⟩
  | false =>
    obtain ⟨calls, regs, hmeets⟩ := hasMeaning_of_not_stubbed hi
    obtain ⟨hcalls, hregs⟩ := hmeets.alike hdaa haf s.rf q s.bus hq
    rw [hmeets.exec_eq] at ht hu
    cases ht
    cases hu
    exact ⟨hregs, by rw [hcalls, hq.extraCycles_eq]⟩

/-- The registers, the bus and the latch an instruction leaves depend on those it starts with alone. -/
theorem exec_congr {i : Instr} {s s' t u : State} (hrf : s'.rf = s.rf) (hbus : s'.bus = s.bus)
    (hfault : s'.fault = s.fault) (ht : exec i s = .next t) (hu : exec i s' = .next u) :
    u.rf = t.rf ∧ u.bus = t.bus ∧ u.fault = t.fault := by
  cases hi : stubbed i with
  | true =>
    rw [exec_stubbed hi] at ht hu
    cases ht
    cases hu
    exact ⟨hrf, hbus, rfl⟩
  | false =>
    obtain ⟨calls, regs, hmeets⟩ := hasMeaning_of_not_stubbed hi
    rw [hmeets.exec_eq] at ht hu
    cases ht
    cases hu
    exact ⟨by rw [hrf, hbus], by rw [hrf, hbus], hfault⟩

end Sys2Proof.Machine

/-! # Proofs: the step and the tick (41_engine.md R121 to R133)

A step fetches the bytes of one instruction, runs it, and leaves its cost in the countdown. -/

namespace Sys2Proof.Machine

open Sys2Proof.Spec

/-! ## Fetched bytes (R124) -/

theorem coming_length (n : Nat) (s : State) : (coming n s).length = n := by
  induction n generalizing s with
  | zero => rfl
  | succ n ih => exact congrArg (· + 1) (ih (afterFetch s))

theorem coming_add (m n : Nat) (s : State) : coming (m + n) s = coming m s ++ coming n (fetched m s) := by
  induction m generalizing s with
  | zero => rw [Nat.zero_add]; rfl
  | succ m ih => rw [Nat.succ_add]; exact congrArg (_ :: ·) (ih (afterFetch s))

theorem fetched_add (m n : Nat) (s : State) : fetched (m + n) s = fetched n (fetched m s) := by
  induction m generalizing s with
  | zero => rw [Nat.zero_add]; rfl
  | succ m ih => rw [Nat.succ_add]; exact ih (afterFetch s)

/-- Fetches depend on PC and the bus alone, and change nothing else. -/
theorem coming_congr (n : Nat) {s s' : State} (hpc : s'.rf.pc = s.rf.pc) (hbus : s'.bus = s.bus) :
    coming n s' = coming n s ∧ (fetched n s').bus = (fetched n s).bus := by
  induction n generalizing s s' with
  | zero => exact ⟨rfl, hbus⟩
  | succ n ih =>
    have hbus' : (afterFetch s').bus = (afterFetch s).bus := by simp only [afterFetch, afterRead, hpc, hbus]
    obtain ⟨hcoming, hfetched⟩ := ih (congrArg (· + 1) hpc : (afterFetch s').rf.pc = (afterFetch s).rf.pc) hbus'
    exact ⟨by rw [coming, coming, hpc, hbus, hcoming], hfetched⟩

theorem fetched_eq (n : Nat) (s : State) :
    fetched n s = { s with rf := { s.rf with pc := s.rf.pc + BitVec.ofNat 16 n }, bus := (fetched n s).bus } := by
  induction n generalizing s with
  | zero => simp [fetched]
  | succ n ih =>
    have hpc : s.rf.pc + 1 + BitVec.ofNat 16 n = s.rf.pc + BitVec.ofNat 16 (n + 1) := by
      rw [add_assoc, add_comm 1, BitVec.ofNat_add]; rfl
    rw [← hpc]
    exact ih (afterFetch s)

theorem fetched_content (n : Nat) (s : State) : (fetched n s).bus.mem = s.bus.mem := by
  induction n generalizing s with
  | zero => rfl
  | succ n ih => exact ih (afterFetch s)

/-- On a bus that answers from its content the bytes are the content at PC and on. -/
theorem coming_content (n : Nat) {s : State} (h : s.bus.replies = []) :
    coming n s = (List.range n).map fun k => Memory.read s.bus.mem (s.rf.pc + BitVec.ofNat 16 k).toNat := by
  induction n generalizing s with
  | zero => rfl
  | succ n ih =>
    have hreplies : (afterFetch s).bus.replies = [] := congrArg List.tail h
    rw [coming, ih hreplies, List.range_succ_eq_map, List.map_cons, List.map_map, Bus.answer_content _ _ h]
    refine congrArg₂ List.cons (by simp) (List.map_congr_left fun k _ => ?_)
    have hpc : s.rf.pc + 1 + BitVec.ofNat 16 k = s.rf.pc + BitVec.ofNat 16 (k + 1) := by
      rw [add_assoc, add_comm 1, BitVec.ofNat_add]; rfl
    exact congrArg (fun a : Word => Memory.read s.bus.mem a.toNat) hpc

/-! ## Running a form (R121, R124) -/

/-- The operand bytes that come are those of some operand value. -/
theorem exists_operands (f : Form) (s : State) : ∃ m x w, coming m s = f.operands x w := by
  cases f with
  | op i => exact ⟨0, 0, 0, rfl⟩
  | imm8 k => exact ⟨1, s.bus.answer s.rf.pc, 0, rfl⟩
  | imm16 k =>
    refine ⟨2, 0, mk16 ((afterFetch s).bus.answer (afterFetch s).rf.pc) (s.bus.answer s.rf.pc), ?_⟩
    rw [Form.operands, lo8_mk16, hi8_mk16]
    rfl

/-- A form runs its instruction after its operand bytes. -/
theorem runForm_eq {f : Form} {m : Nat} {x : Byte} {w : Word} {s : State} (h : coming m s = f.operands x w) :
    runForm f s = exec (f.instr x w) (fetched m s) := by
  have hm : m = (f.operands x w).length := by rw [← h, coming_length]
  subst hm
  cases f with
  | op i => rfl
  | imm8 k =>
    obtain rfl : s.bus.answer s.rf.pc = x := (List.cons.inj h).1
    rfl
  | imm16 k =>
    obtain ⟨hlo, htail⟩ := List.cons.inj h
    obtain ⟨hhi, -⟩ := List.cons.inj htail
    obtain rfl : mk16 ((afterFetch s).bus.answer (afterFetch s).rf.pc) (s.bus.answer s.rf.pc) = w := by
      rw [hlo, hhi, mk16_hi8_lo8]
    rfl

theorem execute_eq {t : TableIx} {op : Byte} {f : Form} {m : Nat} {x : Byte} {w : Word} {s : State}
    (hf : decodeOpcode t op = some f) (h : coming m s = f.operands x w) :
    execute t op s = exec (f.instr x w) (fetched m s) := by
  rw [← runForm_eq h, execute, hf]

/-- Every opcode runs some instruction of its operand bytes. -/
theorem exists_execute_eq (t : TableIx) (op : Byte) (s : State) :
    ∃ f m x w, decodeOpcode t op = some f ∧ coming m s = f.operands x w ∧
      execute t op s = exec (f.instr x w) (fetched m s) := by
  obtain ⟨f, hf, -⟩ := decodeOpcode_encodes t op
  obtain ⟨m, x, w, hm⟩ := exists_operands f s
  exact ⟨f, m, x, w, hf, hm, execute_eq hf hm⟩

/-! ## The end of a dispatch (R129) -/

/-- No instruction writes the timing table, so the cost is that of the table the dispatch began with. -/
theorem conclude_execute (t : TableIx) (op : Byte) (s : State) :
    conclude t op (execute t op s) = withCost (Timing.base s.timing t op) (execute t op s) := by
  obtain ⟨f, m, x, w, -, -, hexec⟩ := exists_execute_eq t op s
  obtain ⟨u, hu⟩ := exists_exec_next (f.instr x w) (fetched m s)
  obtain ⟨-, htiming, -⟩ := frameEngine _ _ _ hu
  rw [fetched_eq] at htiming
  rw [hexec, hu, conclude, withCost, ← htiming]
  cases hfault : u.fault with
  | none => rw [if_pos rfl]
  | some k => rw [if_neg nofun]

theorem withCost_next {cost : Nat} {o : Result} {u : State} (h : withCost cost o = .next u) :
    ∃ t, o = .next t ∧ ((t.fault = none ∧ u = { t with countdown := cost + t.extra }) ∨ (t.fault ≠ none ∧ u = t)) := by
  cases o with
  | next t =>
    refine ⟨t, rfl, ?_⟩
    rw [withCost] at h
    split at h
    · next hf => cases h; exact .inl ⟨hf, rfl⟩
    · next hf => cases h; exact .inr ⟨hf, rfl⟩
  | fault k => cases h
  | refused r => cases h

theorem withCost_of_fault {cost : Nat} {t : State} (h : t.fault ≠ none) : withCost cost (.next t) = .next t :=
  if_neg h

theorem exists_withCost_next (cost : Nat) (t : State) : ∃ u, withCost cost (.next t) = .next u := by
  rw [withCost]
  split
  · exact ⟨_, rfl⟩
  · exact ⟨_, rfl⟩

/-! ## The step -/

theorem step_of_no_fault {s : State} (h : s.fault = none) : step s = s.dispatch := by
  rw [step, instructionStep, h]

theorem step_of_fault {s : State} (h : s.fault ≠ none) : step s = .next s ∧ tick s = .next s := by
  cases hf : s.fault with
  | none => exact absurd hf h
  | some k => exact ⟨by rw [step, instructionStep, hf], by rw [tick, hf]⟩

/-- Settles O41: the two branches of the opcode fetch. -/
theorem prefixSelectsTable : Obligations.PrefixSelectsTable := by
  unfold Obligations.PrefixSelectsTable
  intro s hs
  rw [step_of_no_fault hs, State.dispatch]
  refine ⟨fun hb => ?_, fun hb => ?_⟩
  · obtain ⟨-, heq⟩ | ⟨hne, -⟩ := State.fetchOpcode_cases { s with countdown := 0 }
    · rw [heq]; exact conclude_execute _ _ _
    · exact absurd hb hne
  · obtain ⟨heq, -⟩ | ⟨-, heq⟩ := State.fetchOpcode_cases { s with countdown := 0 }
    · exact absurd heq hb
    · rw [heq]; exact conclude_execute _ _ _

/-- The step executes the opcode of a table at PC. -/
theorem step_of_lead {s : State} {t : TableIx} {b : Byte} (hs : s.fault = none)
    (hb : ¬(t = .t0 ∧ b = Config.prefixByte)) (h : coming (t.lead.length + 1) s = t.lead ++ [b]) :
    step s = withCost (Timing.base s.timing t b) (execute t b (fetched (t.lead.length + 1) { s with countdown := 0 })) := by
  obtain ⟨hprefix, hother⟩ := prefixSelectsTable s hs
  cases t with
  | t0 =>
    obtain rfl : s.bus.answer s.rf.pc = b := (List.cons.inj h).1
    exact hother fun hc => hb ⟨rfl, hc⟩
  | t1 =>
    obtain ⟨h0, htail⟩ := List.cons.inj h
    obtain rfl : (afterFetch s).bus.answer (s.rf.pc + 1) = b := (List.cons.inj htail).1
    exact hprefix h0

/-- `BASE_TIMING` by the bytes of the instruction is that of its table and opcode. -/
theorem baseCost_eq {t : TableIx} {b : Byte} (hb : ¬(t = .t0 ∧ b = Config.prefixByte)) (tm : Timing) (bytes : List Byte) :
    baseCost tm (t.lead ++ b :: bytes) = Timing.base tm t b := by
  cases t with
  | t0 => exact if_neg fun h => hb ⟨rfl, h⟩
  | t1 => rfl

/-- Settles O40: the opcode is dispatched in its table, and its form runs the instruction of its operand bytes. -/
theorem stepRunsDecoded : Obligations.StepRunsDecoded := by
  unfold Obligations.StepRunsDecoded
  refine ⟨fun s i n hs hdec => ?_, fun s n h => coming_content n h⟩
  obtain ⟨t, b, f, x, w, hb, hf, rfl, hbytes⟩ := decode_ok hdec
  rw [List.append_nil] at hbytes
  have hn : n = t.lead.length + 1 + (f.operands x w).length := by
    rw [← coming_length n s, hbytes, List.length_append, List.length_cons]
    omega
  subst hn
  have hsplit : coming (t.lead.length + 1) s ++ coming (f.operands x w).length (fetched (t.lead.length + 1) s) =
      (t.lead ++ [b]) ++ f.operands x w := by
    rw [← coming_add, hbytes, List.append_assoc]
    rfl
  obtain ⟨hlead, hoperands⟩ := List.append_inj hsplit (by rw [coming_length]; simp)
  have hpc : (fetched (t.lead.length + 1) { s with countdown := 0 }).rf.pc = (fetched (t.lead.length + 1) s).rf.pc := by
    rw [fetched_eq, fetched_eq _ s]
  have hbus := (coming_congr (t.lead.length + 1) (s := s) (s' := { s with countdown := 0 }) rfl rfl).2
  rw [step_of_lead hs hb hlead, hbytes, baseCost_eq hb, fetched_add (t.lead.length + 1),
    execute_eq hf ((coming_congr _ hpc hbus).1.trans hoperands)]

/-- The bytes at PC are always those of some instruction, so every step runs one. -/
theorem exists_decoded (s : State) : ∃ n i, decode (coming n s) = .ok i [] := by
  have inTable : ∀ (t : TableIx) (b : Byte) (n : Nat), ¬(t = .t0 ∧ b = Config.prefixByte) →
      coming n s = t.lead ++ [b] → ∃ n i, decode (coming n s) = .ok i [] := by
    intro t b n hb hlead
    obtain ⟨f, hf, -⟩ := decodeOpcode_encodes t b
    obtain ⟨m, x, w, hm⟩ := exists_operands f (fetched n s)
    have hbytes : coming (n + m) s = t.lead ++ b :: f.operands x w ++ [] := by
      rw [coming_add, hlead, hm, List.append_nil, List.append_assoc]
      rfl
    exact ⟨n + m, f.instr x w, by rw [hbytes, decode_form hb hf]⟩
  by_cases hb : s.bus.answer s.rf.pc = Config.prefixByte
  · exact inTable .t1 _ 2 (fun hc => nomatch hc.1) (congrArg (· :: _) hb)
  · exact inTable .t0 _ 1 (fun hc => hb hc.2) rfl

/-- Every step without a latched fault runs a decoded instruction and answers a next state. -/
theorem exists_step_eq {s : State} (hs : s.fault = none) : ∃ n i t, decode (coming n s) = .ok i [] ∧
    exec i (fetched n { s with countdown := 0 }) = .next t ∧
    step s = withCost (baseCost s.timing (coming n s)) (.next t) := by
  obtain ⟨n, i, hdec⟩ := exists_decoded s
  obtain ⟨t, ht⟩ := exists_exec_next i (fetched n { s with countdown := 0 })
  exact ⟨n, i, t, hdec, ht, by rw [stepRunsDecoded.1 s i n hs hdec, ht]⟩

theorem exists_step_next (s : State) : ∃ t, step s = .next t := by
  by_cases hs : s.fault = none
  · obtain ⟨n, i, t, -, -, hstep⟩ := exists_step_eq hs
    rw [hstep]
    exact exists_withCost_next _ t
  · exact ⟨s, (step_of_fault hs).1⟩

/-- What a step without a latched fault ends in: the state its instruction leaves, the countdown aside. -/
theorem step_next {s u : State} (hs : s.fault = none) (h : step s = .next u) : ∃ n i t,
    decode (coming n s) = .ok i [] ∧ exec i (fetched n { s with countdown := 0 }) = .next t ∧
    ((t.fault = none ∧ u = { t with countdown := baseCost s.timing (coming n s) + t.extra }) ∨
      (t.fault ≠ none ∧ u = t)) := by
  obtain ⟨n, i, t, hdec, ht, hstep⟩ := exists_step_eq hs
  obtain ⟨t', ht', hu⟩ := withCost_next (hstep.symm.trans h)
  cases ht'
  exact ⟨n, i, t, hdec, ht, hu⟩

/-! ## The tick (R129) -/

theorem tick_of_countdown {s : State} {n : Nat} (hs : s.fault = none) (hn : s.countdown = n + 1) :
    tick s = .next { s with countdown := n } := by
  rw [tick, hs, hn]
  exact if_pos n.succ_pos

theorem tick_of_ready {s : State} (hs : s.fault = none) (h0 : s.countdown = 0) : tick s = step s := by
  rw [step_of_no_fault hs, tick, hs, h0]
  exact if_neg (lt_irrefl 0)

/-- A tick does nothing, takes one off an active countdown, or is the step. -/
theorem tick_cases (s : State) :
    (s.fault ≠ none ∧ tick s = .next s) ∨
    (s.fault = none ∧ ∃ n, s.countdown = n + 1 ∧ tick s = .next { s with countdown := n }) ∨ tick s = step s := by
  by_cases hs : s.fault = none
  · cases hn : s.countdown with
    | zero => exact .inr (.inr (tick_of_ready hs hn))
    | succ n => exact .inr (.inl ⟨hs, n, rfl, tick_of_countdown hs hn⟩)
  · exact .inl ⟨hs, (step_of_fault hs).2⟩

/-- Settles O43: each branch by its equation. -/
theorem tickBranches : Obligations.TickBranches := by
  unfold Obligations.TickBranches
  exact fun s => ⟨step_of_fault, fun hs => ⟨fun _ hn => tick_of_countdown hs hn, tick_of_ready hs⟩⟩

/-- The step drops what is left of a countdown. -/
theorem step_countdown {s : State} (hs : s.fault = none) (n : Nat) : step { s with countdown := n } = step s := by
  rw [step_of_no_fault hs, step_of_no_fault (s := { s with countdown := n }) hs]
  rfl

/-- Settles O44, by induction on the countdown. -/
theorem ticksAreOneStep : Obligations.TicksAreOneStep := by
  unfold Obligations.TicksAreOneStep
  intro s hs
  generalize hn : s.countdown = n
  induction n generalizing s with
  | zero =>
    obtain ⟨t, ht⟩ := exists_step_next s
    rw [ticks, tick_of_ready hs hn, ht]
    rfl
  | succ n ih =>
    rw [ticks, tick_of_countdown hs hn]
    exact (ih { s with countdown := n } hs rfl).trans (step_countdown hs n)

/-! ## What a step keeps and leaves -/

/-- Settles O32: `exec` is total, and a step and a tick run it. -/
theorem nothingStops : Obligations.NothingStops := by
  unfold Obligations.NothingStops
  refine ⟨exists_exec_next, fun s => ⟨exists_step_next s, ?_⟩⟩
  obtain ⟨-, ht⟩ | ⟨-, n, -, ht⟩ | ht := tick_cases s
  · exact ⟨_, ht⟩
  · exact ⟨_, ht⟩
  · rw [ht]; exact exists_step_next s

/-- Settles O42: the fetches move PC past the bytes, and the instruction does not write it. -/
theorem pcPassesInstruction : Obligations.PcPassesInstruction := by
  unfold Obligations.PcPassesInstruction
  intro s i n hs hdec hi
  obtain ⟨t, ht⟩ := exists_exec_next i (fetched n { s with countdown := 0 })
  have hpc : t.rf.pc = s.rf.pc + BitVec.ofNat 16 n := by
    rw [(exec_writesOnly ht).counter hi, fetched_eq]
  obtain ⟨u, hu⟩ := exists_withCost_next (baseCost s.timing (coming n s)) t
  refine ⟨u, by rw [stepRunsDecoded.1 s i n hs hdec, ht, hu], ?_⟩
  obtain ⟨t', ht', ⟨-, rfl⟩ | ⟨-, rfl⟩⟩ := withCost_next hu <;> cases ht' <;> exact hpc

/-- Settles O45: both steps run the same instruction, from states alike in registers, bus and latch. -/
theorem timingIsInvisible : Obligations.TimingIsInvisible := by
  unfold Obligations.TimingIsInvisible
  intro s tm c x t u hs ht hu
  obtain ⟨n, i, t', hdec, ht', hcost⟩ := step_next hs ht
  obtain ⟨hcoming, -⟩ := coming_congr n (s := s) (s' := { s with timing := tm, countdown := c, extra := x }) rfl rfl
  obtain ⟨u', hu'⟩ := exists_exec_next i (fetched n { s with timing := tm, countdown := 0, extra := x })
  rw [stepRunsDecoded.1 { s with timing := tm, countdown := c, extra := x } i n hs (by rw [hcoming, hdec]), hu'] at hu
  obtain ⟨v, hv, hcost'⟩ := withCost_next hu
  cases hv
  have hbus := (coming_congr n (s := { s with countdown := 0 })
    (s' := { s with timing := tm, countdown := 0, extra := x }) rfl rfl).2
  have hsame := exec_congr (by rw [fetched_eq, fetched_eq n { s with countdown := 0 }]) hbus
    (by rw [fetched_eq, fetched_eq n { s with countdown := 0 }]) ht' hu'
  obtain ⟨-, rfl⟩ | ⟨-, rfl⟩ := hcost <;> obtain ⟨-, rfl⟩ | ⟨-, rfl⟩ := hcost' <;> exact hsame

/-! ## The faults of a step (60_exceptions.md R304, R310) -/

/-- Each of the sixteen opcodes is the encoding of a stub. -/
theorem exists_stub {op : Byte} (h : op ∈ faultingOpcodes) :
    ∃ i, stubbed i = true ∧ decode [op] = .ok i [] ∧ encode i = [op] := by
  have hall : ∀ op ∈ faultingOpcodes, (decode [op]).instr?.map stubbed = some true := by decide
  obtain ⟨i, hi, hstub⟩ := Option.map_eq_some_iff.1 (hall op h)
  cases hdec : decode [op] with
  | reject why => rw [hdec] at hi; cases hi
  | ok j rest =>
    rw [hdec] at hi
    obtain rfl : j = i := Option.some.inj hi
    obtain ⟨hwf, henc⟩ := encodeOfDecode _ _ _ hdec
    obtain ⟨op', -, hop'⟩ := encode_stubbed hstub hwf
    rw [hop'] at henc
    obtain ⟨rfl, rfl⟩ := List.cons.inj henc
    exact ⟨j, hstub, rfl, hop'⟩

/-- Settles O31: the sixteen opcodes run a stub, and only a stub latches a fault. -/
theorem stepFaults : Obligations.StepFaults := by
  unfold Obligations.StepFaults
  intro s hs
  have hfault : s.bus.answer s.rf.pc ∈ faultingOpcodes → step s = .next { afterFetch s with
      countdown := 0, fault := some (.unimplementedOpcode .t0 (s.bus.answer s.rf.pc)) } := by
    intro hop
    obtain ⟨i, hstub, hdec, henc⟩ := exists_stub hop
    rw [stepRunsDecoded.1 s i 1 hs hdec, exec_stubbed hstub, henc]
    exact withCost_of_fault (Option.some_ne_none _)
  refine ⟨hfault, fun t ht hlatched => ?_⟩
  obtain ⟨n, i, u, hdec, hu, hcost⟩ := step_next hs ht
  have hstub : stubbed i = true := by
    by_contra hn
    have hkeep := ((frameEngine _ _ _ hu).2.2 (Bool.not_eq_true _ ▸ hn)).1
    rw [fetched_eq, hs] at hkeep
    obtain ⟨-, rfl⟩ | ⟨hne, -⟩ := hcost
    · exact hlatched hkeep
    · exact hne hkeep
  obtain ⟨hwf, henc⟩ := encodeOfDecode _ _ _ hdec
  obtain ⟨op, hop, hi⟩ := encode_stubbed hstub hwf
  rw [hi, List.append_nil] at henc
  obtain rfl : n = 1 := by rw [← coming_length n s, ← henc]; rfl
  obtain rfl : op = s.bus.answer s.rf.pc := (List.cons.inj henc).1
  have hstep := hfault hop
  rw [ht] at hstep
  exact ⟨hop, Host.Outcome.next.inj hstep⟩

/-! ## The invariant (10_state.md R11; 60_exceptions.md R304, R310) -/

/-- Settles O49: nothing is latched, and the rest is given. -/
theorem constructedSatisfiesInvariant : Obligations.ConstructedSatisfiesInvariant := by
  unfold Obligations.ConstructedSatisfiesInvariant
  exact ⟨fun _ _ _ hlow hwf => ⟨hlow, hwf, nofun, nofun⟩, rfl, State.reset_content, nofun, nofun⟩

/-- An instruction run with nothing latched and countdown 0 keeps the invariant: its writes leave F's low nibble and the
content in form, and only a stub latches. -/
theorem exec_invariant {i : Instr} {s t : State} (hs : Invariant s) (hfault : s.fault = none) (h0 : s.countdown = 0)
    (h : exec i s = .next t) : Invariant t := by
  obtain ⟨calls, -, hbus⟩ := exec_perform h
  refine ⟨(exec_writesOnly h).low hs.flagsLow, by rw [hbus]; exact Bus.perform_wf calls hs.content,
    fun _ _ => (frameEngine i s t h).1.trans h0, fun k hk => ?_⟩
  obtain ⟨-, rfl⟩ | ⟨hi, -⟩ := exec_next h
  · exact ⟨_, (Option.some.inj hk).symm⟩
  · rw [((frameEngine i s t h).2.2 hi).1, hfault] at hk
    cases hk

/-- The countdown may change while nothing is latched. -/
theorem Invariant.setCountdown {s : State} (h : Invariant s) (hs : s.fault = none) (n : Nat) :
    Invariant { s with countdown := n } :=
  ⟨h.flagsLow, h.content, fun _ hk => absurd (hs.symm.trans hk) nofun, h.faultKind⟩

theorem fetched_invariant {s : State} (h : Invariant s) (n : Nat) : Invariant (fetched n s) := by
  have hmem := fetched_content n s
  rw [fetched_eq]
  exact ⟨h.flagsLow, hmem ▸ h.content, h.faultReady, h.faultKind⟩

theorem step_invariant {s t : State} (h : Invariant s) (ht : step s = .next t) : Invariant t := by
  by_cases hs : s.fault = none
  · obtain ⟨n, i, u, -, hu, hcost⟩ := step_next hs ht
    have hfetched : Invariant (fetched n { s with countdown := 0 }) := fetched_invariant (h.setCountdown hs 0) n
    have hinv : Invariant u := exec_invariant hfetched (by rw [fetched_eq]; exact hs) (by rw [fetched_eq]) hu
    obtain ⟨hnone, rfl⟩ | ⟨-, rfl⟩ := hcost
    · exact hinv.setCountdown hnone _
    · exact hinv
  · rw [(step_of_fault hs).1] at ht
    cases ht
    exact h

/-- Settles O50: a tick is a step, or changes the countdown while nothing is latched, or nothing. -/
theorem stepKeepsInvariant : Obligations.StepKeepsInvariant := by
  unfold Obligations.StepKeepsInvariant
  rintro s t h (ht | ht)
  · exact step_invariant h ht
  · obtain ⟨-, htick⟩ | ⟨hs, n, -, htick⟩ | htick := tick_cases s <;> rw [htick] at ht
    · cases ht
      exact h
    · cases ht
      exact h.setCountdown hs n
    · exact step_invariant h ht

end Sys2Proof.Machine

/-! # Proofs: the bus, the stack on a plain RAM, reset, and the faults of any tables -/

namespace Sys2Proof.Machine

open Sys2Proof.Spec

/-! ## Bus calls (20_memory.md R30, R36, R40, R43) -/

theorem answer_of_reply {u : Bus} {v : Byte} {rest : List (Option Byte)} (h : u.replies = some v :: rest) (a : Word) :
    u.answer a = v := by
  rw [Bus.answer, h]

theorem answer_of_no_reply {u : Bus} (h : u.replies = [] ∨ ∃ rest, u.replies = none :: rest) (a : Word) :
    u.answer a = Memory.read u.mem a.toNat := by
  obtain h | ⟨rest, h⟩ := h <;> rw [Bus.answer, h]

/-- A plain RAM stays one, and answers from its content. -/
theorem PlainRam.memWrite {s : State} (hs : PlainRam s) (a : Word) (v : Byte) : PlainRam (s.memWrite a v) :=
  ⟨hs.1, State.memWrite_wf a v s hs.2⟩

theorem PlainRam.answer {s : State} (hs : PlainRam s) (a : Word) :
    s.bus.answer a = Memory.read s.bus.mem a.toNat := Bus.answer_content s.bus a hs.1

/-- On a plain RAM a byte written is read back. -/
theorem answer_memWrite_same {s : State} (hs : PlainRam s) (a : Word) (v : Byte) :
    (s.memWrite a v).bus.answer a = v :=
  (PlainRam.answer (PlainRam.memWrite hs a v) a).trans (Memory.read_write_same s.bus.mem a.toNat v hs.2)

/-- On a plain RAM every other byte is as it was. -/
theorem answer_memWrite_other {s : State} (hs : PlainRam s) {a b : Word} (hab : b ≠ a) (v : Byte) :
    (s.memWrite a v).bus.answer b = s.bus.answer b := by
  rw [PlainRam.answer hs]
  exact (PlainRam.answer (PlainRam.memWrite hs a v) b).trans
    (Memory.read_write_other s.bus.mem a.toNat b.toNat v fun h => hab (BitVec.eq_of_toNat_eq h))

/-- Settles O47: each call by its equation, and the RAM by the laws of the content. -/
theorem busCalls : Obligations.BusCalls := by
  unfold Obligations.BusCalls
  intro s a
  refine ⟨fun v rest h => answer_of_reply h a, fun h => answer_of_no_reply h a, rfl, fun _ => rfl, fun hs v =>
    ⟨PlainRam.memWrite hs a v, answer_memWrite_same hs a v, fun b hb => answer_memWrite_other hs hb v,
      answer_memWrite_same hs s.rf.pc v⟩⟩

/-! ## A pop after a push (41_engine.md R126) -/

theorem word_high_low (v : Word) : word (high v) (low v) = v := by
  rw [← hi8_eq_high, ← lo8_eq_low, ← mk16_eq_word, mk16_hi8_lo8]

/-- A read of a plain RAM does not change what the next one answers. -/
theorem popValue_of_plainRam {s : State} (hs : PlainRam s) (sp : Word) :
    popValue sp s.bus = word (s.bus.answer (sp + 1)) (s.bus.answer sp) := by
  have hnext : (s.bus.call (.read sp (s.bus.answer sp))).answer (sp + 1) = s.bus.answer (sp + 1) :=
    (Bus.answer_content _ _ (congrArg List.tail hs.1)).trans (PlainRam.answer hs (sp + 1)).symm
  rw [popValue, hnext]

/-- The word popped is the word pushed: its two bytes lie at different addresses. -/
theorem popValue_push {s : State} (hs : PlainRam s) (v sp : Word) :
    popValue (sp - 2) (afterWrite (sp - 2) (low v) (afterWrite (sp - 1) (high v) s)).bus = v := by
  have hhigh : PlainRam (afterWrite (sp - 1) (high v) s) := PlainRam.memWrite hs _ _
  have hboth : PlainRam (afterWrite (sp - 2) (low v) (afterWrite (sp - 1) (high v) s)) := PlainRam.memWrite hhigh _ _
  have hlow : (afterWrite (sp - 2) (low v) (afterWrite (sp - 1) (high v) s)).bus.answer (sp - 2) = low v :=
    answer_memWrite_same hhigh (sp - 2) (low v)
  have hne : sp - 1 ≠ sp - 2 := by bv_omega
  have hhi : (afterWrite (sp - 2) (low v) (afterWrite (sp - 1) (high v) s)).bus.answer (sp - 1) = high v :=
    (answer_memWrite_other hhigh hne (low v)).trans (answer_memWrite_same hs (sp - 1) (high v))
  have hnext : sp - 2 + 1 = sp - 1 := by bv_omega
  rw [popValue_of_plainRam hboth, hnext, hlow, hhi, word_high_low]

/-- A pair written back is as it was; F because its low nibble is 0. -/
theorem withStackPair_stackPair {r : RegFile} (hlow : r.f &&& 0x0F#8 = 0#8) (p : R16Stk) :
    withStackPair r p (stackPair r p) = r := by
  have hhigh : ∀ x y : Byte, high (word x y) = x := fun x y => by rw [← mk16_eq_word, ← hi8_eq_high, hi8_mk16]
  have hlo : ∀ x y : Byte, low (word x y) = y := fun x y => by rw [← mk16_eq_word, ← lo8_eq_low, lo8_mk16]
  cases p with
  | af =>
    have hf : BitVec.ofNat 8 (16 * ((word r.a r.f).toNat % 256 / 16)) = r.f := by
      rw [← toNat_lo8, lo8_eq_low, hlo, ← and_F0_eq_ofNat]
      generalize r.f = f at hlow
      revert f
      decide
    simp only [withStackPair, stackPair, hhigh, hf]
  | _ => simp only [withStackPair, stackPair, hhigh, hlo]

theorem sub_two_add_two (w : Word) : w - 2 + 2 = w := by bv_omega

/-- Settles O9: the word comes back, and SP ends where it was. -/
theorem popUndoesPush : Obligations.PopUndoesPush := by
  unfold Obligations.PopUndoesPush
  intro s t u hs hlow
  refine ⟨fun p ht hu => ?_, fun a ht hu => ?_⟩
  · rw [(pushPair p).2] at ht
    cases ht
    rw [(popPair p).2] at hu
    cases hu
    have hsp : { s.rf with sp := s.rf.sp - 2 + 2 } = s.rf := by rw [sub_two_add_two]
    have hvalue := popValue_push hs (stackPair s.rf p) s.rf.sp
    exact (congrArg₂ (withStackPair · p ·) hsp hvalue).trans (withStackPair_stackPair hlow p)
  · rw [callPushesReturnAddress.1.2] at ht
    cases ht
    rw [returnReadsStack.1.2] at hu
    cases hu
    have hvalue := popValue_push hs s.rf.pc s.rf.sp
    exact congrArg₂ (fun sp pc => { s.rf with sp := sp, pc := pc }) (sub_two_add_two s.rf.sp) hvalue

/-! ## Reset (70_reset_and_hazards.md R320) -/

/-- Settles O48: the fields of the reset state. -/
theorem resetState : Obligations.ResetState := by
  unfold Obligations.ResetState
  refine ⟨rfl, rfl, rfl, rfl, rfl, rfl, rfl, rfl, rfl, rfl, rfl, rfl, fun _ => rfl, fun t op => ?_⟩
  cases t <;> rfl

/-! ## The run-time faults of any tables (60_exceptions.md R303 to R305) -/

/-- Settles O58: each branch of `Execute` that raises. -/
theorem generalFaults : Obligations.GeneralFaults := by
  unfold Obligations.GeneralFaults
  refine fun ip t op s => ⟨fun h => ?_, fun p h => ⟨fun hh => ?_, fun hh => ?_⟩⟩ <;> rw [Interpreter.execute, h]
  · rfl
  · simp only [hh, raise]
  · simp only [hh, raise]

end Sys2Proof.Machine

/-! # Proofs: decimal arithmetic (40_primitives.md R91, R92, R108)

Two packed-BCD bytes and a carry, as numbers: the digits are added or subtracted, and the correction carries between them. -/

namespace Sys2Proof.Machine

open Sys2Proof.Spec

/-- The decimal sum of two digit pairs and a carry, digit by digit: `k` is the carry between them, `m` the carry out. -/
theorem decimal_sum_digits {p q r s c k m : Nat} (hq : q ≤ 9) (hs : s ≤ 9) (hp : p ≤ 9) (hr : r ≤ 9) (hc : c ≤ 1)
    (hk : k = if q + s + c ≤ 9 then 0 else 1) (hm : m = if p + r + k ≤ 9 then 0 else 1) :
    (10 * p + q + (10 * r + s) + c) % 100 / 10 = p + r + k - 10 * m ∧
      (10 * p + q + (10 * r + s) + c) % 100 % 10 = q + s + c - 10 * k := by
  split_ifs at hk hm <;> omega

/-- The binary sum of two digit pairs and a carry, corrected by 6 and 0x60. -/
theorem binary_sum_corrected {p q r s c n : Nat} (hq : q ≤ 9) (hs : s ≤ 9) (hp : p ≤ 9) (hr : r ≤ 9) (hc : c ≤ 1)
    (hn : n = 16 * p + q + (16 * r + s) + c) :
    (100 ≤ 10 * p + q + (10 * r + s) + c ↔ 255 < n ∨ 0x99 < n % 256) ∧
    (n % 256 + (if 15 < q + s + c ∨ 9 < n % 256 % 16 then 6 else 0) +
      (if 255 < n ∨ 0x99 < n % 256 then 0x60 else 0)) % 256 =
        16 * ((10 * p + q + (10 * r + s) + c) % 100 / 10) + (10 * p + q + (10 * r + s) + c) % 100 % 10 := by
  obtain ⟨htens, hones⟩ := decimal_sum_digits hq hs hp hr hc rfl rfl
  rw [htens, hones]
  constructor
  · omega
  · split_ifs <;> omega

/-- The decimal difference of two digit pairs and a borrow, digit by digit. -/
theorem decimal_difference_digits {p q r s c k m : Nat} (hq : q ≤ 9) (hs : s ≤ 9) (hp : p ≤ 9) (hr : r ≤ 9) (hc : c ≤ 1)
    (hk : k = if s + c ≤ q then 0 else 1) (hm : m = if r + k ≤ p then 0 else 1) :
    (100 + (10 * p + q) - (10 * r + s) + 100 - c) % 100 / 10 = p + 10 * m - r - k ∧
      (100 + (10 * p + q) - (10 * r + s) + 100 - c) % 100 % 10 = q + 10 * k - s - c := by
  split_ifs at hk hm <;> omega

/-- The binary difference of two digit pairs and a borrow, corrected by 6 and 0x60. -/
theorem binary_difference_corrected {p q r s c n : Nat} (hq : q ≤ 9) (hs : s ≤ 9) (hp : p ≤ 9) (hr : r ≤ 9) (hc : c ≤ 1)
    (hn : n = 256 + 256 + (16 * p + q) - (16 * r + s) - c) :
    (10 * p + q < 10 * r + s + c ↔ 16 * p + q < 16 * r + s + c) ∧
    (256 + n % 256 - (if q < s + c then 6 else 0) - (if 16 * p + q < 16 * r + s + c then 0x60 else 0)) % 256 =
        16 * ((100 + (10 * p + q) - (10 * r + s) + 100 - c) % 100 / 10) +
          (100 + (10 * p + q) - (10 * r + s) + 100 - c) % 100 % 10 := by
  obtain ⟨htens, hones⟩ := decimal_difference_digits hq hs hp hr hc rfl rfl
  rw [htens, hones]
  constructor
  · omega
  · split_ifs <;> omega

/-! ## `DAA` after an addition and after a subtraction -/

theorem toNat_bcd {x : Nat} (hx : x < 100) : (bcd x).toNat = 16 * (x / 10) + x % 10 := by
  rw [bcd, BitVec.toNat_ofNat]
  omega

theorem bcd_eq_ofNat {x n : Nat} (h : n % 256 = 16 * (x / 10) + x % 10) : BitVec.ofNat 8 n = bcd x := by
  rw [bcd, ← h]
  exact BitVec.eq_of_toNat_eq (by simp)

theorem adjusted_added {c : Bool} {r : RegFile} {v : Byte} {n : Nat} (hn : n = r.a.toNat + v.toNat + c.toNat) :
    (adjusted (added c r v)).a = BitVec.ofNat 8 (n % 256 +
      (if 15 < r.a.toNat % 16 + v.toNat % 16 + c.toNat ∨ 9 < n % 256 % 16 then 6 else 0) +
      (if 255 < n ∨ 0x99 < n % 256 then 0x60 else 0)) ∧
    cOf (adjusted (added c r v)) = decide (255 < n ∨ 0x99 < n % 256) := by
  subst hn
  obtain ⟨-, hN, hH, hC, -⟩ := flags_flagByte ((r.a.toNat + v.toNat + c.toNat) % 256 == 0) false
    (decide (15 < r.a.toNat % 16 + v.toNat % 16 + c.toNat)) (decide (255 < r.a.toNat + v.toNat + c.toNat))
  have hN : nOf (added c r v) = false := hN
  have hH : hOf (added c r v) = decide (15 < r.a.toNat % 16 + v.toNat % 16 + c.toNat) := hH
  have hC : cOf (added c r v) = decide (255 < r.a.toNat + v.toNat + c.toNat) := hC
  have hA : (added c r v).a.toNat = (r.a.toNat + v.toNat + c.toNat) % 256 := BitVec.toNat_ofNat _ _
  constructor
  · simp only [adjusted, hN, hH, hC, hA]
    simp
  · refine Eq.trans (flags_flagByte _ _ _ _).2.2.2.1 ?_
    simp only [hN, hC, hA]
    simp

theorem adjusted_subtracted {c : Bool} {r : RegFile} {v : Byte} {n : Nat}
    (hn : n = 256 + 256 + r.a.toNat - v.toNat - c.toNat) :
    (adjusted (subtracted c r v)).a = BitVec.ofNat 8 (256 + n % 256 -
      (if r.a.toNat % 16 < v.toNat % 16 + c.toNat then 6 else 0) -
      (if r.a.toNat < v.toNat + c.toNat then 0x60 else 0)) ∧
    cOf (adjusted (subtracted c r v)) = decide (r.a.toNat < v.toNat + c.toNat) := by
  subst hn
  obtain ⟨-, hN, hH, hC, -⟩ := flags_flagByte ((256 + 256 + r.a.toNat - v.toNat - c.toNat) % 256 == 0) true
    (decide (r.a.toNat % 16 < v.toNat % 16 + c.toNat)) (decide (r.a.toNat < v.toNat + c.toNat))
  have hN : nOf (subtracted c r v) = true := hN
  have hH : hOf (subtracted c r v) = decide (r.a.toNat % 16 < v.toNat % 16 + c.toNat) := hH
  have hC : cOf (subtracted c r v) = decide (r.a.toNat < v.toNat + c.toNat) := hC
  have hA : (subtracted c r v).a.toNat = (256 + 256 + r.a.toNat - v.toNat - c.toNat) % 256 := BitVec.toNat_ofNat _ _
  constructor
  · simp only [adjusted, hN, hH, hC, hA]
    simp
  · refine Eq.trans (flags_flagByte _ _ _ _).2.2.2.1 ?_
    simp only [hN, hC]
    simp

/-! ## Two packed-BCD bytes -/

/-- A number below 100 by its two digits. -/
theorem exists_digits {x : Nat} (hx : x < 100) : ∃ p q, p ≤ 9 ∧ q ≤ 9 ∧ x = 10 * p + q ∧ (bcd x).toNat = 16 * p + q :=
  ⟨x / 10, x % 10, by omega, by omega, by omega, toNat_bcd hx⟩

theorem adjusted_added_bcd {x y : Nat} (hx : x < 100) (hy : y < 100) {r : RegFile} (ha : r.a = bcd x) (c : Bool) :
    (adjusted (added c r (bcd y))).a = bcd ((x + y + c.toNat) % 100) ∧
      cOf (adjusted (added c r (bcd y))) = decide (100 ≤ x + y + c.toNat) := by
  obtain ⟨hres, hcarry⟩ := adjusted_added (c := c) (r := r) (v := bcd y) rfl
  obtain ⟨p, q, hp, hq, rfl, hxb⟩ := exists_digits hx
  obtain ⟨p', q', hp', hq', rfl, hyb⟩ := exists_digits hy
  have hq16 : (16 * p + q) % 16 = q := by omega
  have hq'16 : (16 * p' + q') % 16 = q' := by omega
  obtain ⟨hiff, hsum⟩ := binary_sum_corrected hq hq' hp hp' c.toNat_le rfl
  rw [ha, hxb, hyb, hq16, hq'16] at hres
  rw [ha, hxb, hyb] at hcarry
  exact ⟨hres.trans (bcd_eq_ofNat hsum), hcarry.trans (decide_eq_decide.mpr hiff.symm)⟩

theorem adjusted_subtracted_bcd {x y : Nat} (hx : x < 100) (hy : y < 100) {r : RegFile} (ha : r.a = bcd x) (c : Bool) :
    (adjusted (subtracted c r (bcd y))).a = bcd ((100 + x - y + 100 - c.toNat) % 100) ∧
      cOf (adjusted (subtracted c r (bcd y))) = decide (x < y + c.toNat) := by
  obtain ⟨hres, hborrow⟩ := adjusted_subtracted (c := c) (r := r) (v := bcd y) rfl
  obtain ⟨p, q, hp, hq, rfl, hxb⟩ := exists_digits hx
  obtain ⟨p', q', hp', hq', rfl, hyb⟩ := exists_digits hy
  have hq16 : (16 * p + q) % 16 = q := by omega
  have hq'16 : (16 * p' + q') % 16 = q' := by omega
  obtain ⟨hiff, hdiff⟩ := binary_difference_corrected hq hq' hp hp' c.toNat_le rfl
  rw [ha, hxb, hyb, hq16, hq'16] at hres
  rw [ha, hxb, hyb] at hborrow
  exact ⟨hres.trans (bcd_eq_ofNat hdiff), hborrow.trans (decide_eq_decide.mpr hiff.symm)⟩

/-- Settles O18: `DAA` corrects the binary sum and the binary difference. -/
theorem decimalArithmetic : Obligations.DecimalArithmetic := by
  unfold Obligations.DecimalArithmetic
  intro x y hx hy s t u ha
  refine ⟨fun ht hu => ?_, fun ht hu => ?_⟩ <;> rw [decimalAdjust.2] at hu <;> cases hu
  · obtain ⟨-, -, -, -, hadc⟩ := addWithCarry
    rw [hadc] at ht
    cases ht
    exact adjusted_added_bcd hx hy ha (cOf s.rf)
  · obtain ⟨-, -, -, -, hsbc⟩ := subtractWithBorrow
    rw [hsbc] at ht
    cases ht
    exact adjusted_subtracted_bcd hx hy ha (cOf s.rf)

end Sys2Proof.Machine

/-! # Proofs: template texts (30_encoding.md R50 to R55)

The constant characters of a text are the bits of two bit vectors; for the letters, the parser keeps `FieldsRead`. -/

namespace Sys2Proof.Machine

open Sys2Proof.Spec

/-! ## The constant positions -/

/-- A character that fixes its bit. -/
def isConstant (ch : Char) : Bool := ch = '0' || ch = '1'

/-- The bit of the first character is worth the power of 2 of the number of the others. -/
theorem toNat_ofBoolListBE_map_cons (p : Char → Bool) (ch : Char) (cs : List Char) :
    (BitVec.ofBoolListBE ((ch :: cs).map p)).toNat =
      (if p ch then 2 ^ cs.length else 0) + (BitVec.ofBoolListBE (cs.map p)).toNat := by
  rw [List.map_cons, BitVec.ofBoolListBE]
  refine BitVec.toNat_cons'.trans ?_
  cases p ch <;> simp [Nat.shiftLeft_eq]

/-- The parser adds the bits of the constant characters to the mask and those of the characters `1` to the value. -/
theorem parseChars_ok_constants {cs : List Char} {st st' : ParseState} (h : parseChars cs st = .ok st') :
    st'.constMask = st.constMask + (BitVec.ofBoolListBE (cs.map isConstant)).toNat ∧
      st'.constVal = st.constVal + (BitVec.ofBoolListBE (cs.map (· = '1'))).toNat := by
  induction cs generalizing st with
  | nil => cases h; exact ⟨rfl, rfl⟩
  | cons ch cs ih =>
    rw [toNat_ofBoolListBE_map_cons, toNat_ofBoolListBE_map_cons, ← Nat.add_assoc, ← Nat.add_assoc]
    rw [parseChars] at h
    by_cases h0 : ch = '0'
    · simpa [h0, isConstant] using ih (by simpa [h0] using h)
    by_cases h1 : ch = '1'
    · simpa [h1, isConstant] using ih (by simpa [h1] using h)
    rw [if_neg h0, if_neg h1] at h
    simp only [isConstant, h0, h1, decide_false, Bool.or_self, Bool.false_eq_true, if_false, Nat.add_zero]
    split_ifs at h with hl hp hf
    · exact (ih h :)
    · exact (ih h :)

/-! ## The fields -/

theorem isFieldLetter_iff (ch : Char) : isFieldLetter ch = true ↔ isLetter ch := by simp [isFieldLetter]

/-- Bit `k` belongs to a field. -/
def VariableField.Covers (f : VariableField) (k : Nat) : Prop :=
  f.mostSignificantBitIndex + 1 ≤ k + f.bitWidth ∧ k ≤ f.mostSignificantBitIndex

/-- A field is a run of bits under a letter, from below `top` down to no lower than `n`. -/
structure VariableField.IsRun (top n : Nat) (f : VariableField) : Prop where
  letter : isLetter f.name
  width_pos : 0 < f.bitWidth
  width_le : f.bitWidth + n ≤ f.mostSignificantBitIndex + 1
  msb_lt : f.mostSignificantBitIndex < top

/-- What the fields say when the characters `pre` are read and `n` are to come. -/
structure FieldsRead (pre : List Char) (n : Nat) (st : ParseState) : Prop where
  last : st.prev = pre.getLast?
  runs : ∀ f ∈ st.fields, f.IsRun (pre.length + n) n
  names : st.fields.Pairwise (·.name ≠ ·.name)
  places : ∀ ch i k, isLetter ch → i + k + 1 = pre.length + n →
    (pre[i]? = some ch ↔ ∃ f ∈ st.fields, f.name = ch ∧ f.Covers k)
  opened : ∀ ch, isLetter ch → pre.getLast? = some ch →
    ∃ f fs, st.fields = f :: fs ∧ f.name = ch ∧ f.bitWidth + n = f.mostSignificantBitIndex + 1

theorem fieldsRead_nil (n : Nat) : FieldsRead [] n ⟨0, 0, [], none⟩ where
  last := rfl
  runs := nofun
  names := .nil
  places := by simp
  opened := nofun

section
variable {pre : List Char} {n : Nat} {st : ParseState}

/-- A letter was read exactly where it has a field. -/
theorem FieldsRead.mem_iff (h : FieldsRead pre n st) {ch : Char} (hl : isLetter ch) :
    ch ∈ pre ↔ ∃ f ∈ st.fields, f.name = ch := by
  constructor
  · intro hmem
    obtain ⟨i, hi, hget⟩ := List.getElem_of_mem hmem
    have hat : pre[i]? = some ch := by rw [List.getElem?_eq_getElem hi, hget]
    obtain ⟨f, hf, hname, -⟩ := (h.places ch i (pre.length + n - 1 - i) hl (by omega)).1 hat
    exact ⟨f, hf, hname⟩
  · rintro ⟨f, hf, hname⟩
    obtain ⟨-, hpos, hle, hlt⟩ := h.runs f hf
    have hcov : f.Covers f.mostSignificantBitIndex := ⟨by omega, le_rfl⟩
    exact List.mem_of_getElem?
      ((h.places ch (pre.length + n - 1 - f.mostSignificantBitIndex) _ hl (by omega)).2 ⟨f, hf, hname, hcov⟩)

/-- The character at a place of a text that is one longer. -/
theorem getElem?_concat_iff {ch c : Char} {i k : Nat} (hik : i + k + 1 = pre.length + (n + 1)) :
    (pre ++ [c])[i]? = some ch ↔ (k = n ∧ c = ch) ∨ pre[i]? = some ch := by
  rcases lt_trichotomy i pre.length with hlt | rfl | hgt
  · rw [List.getElem?_append_left hlt]
    exact ⟨.inr, fun h => h.resolve_left fun hk => by omega⟩
  · have hk : k = n := by omega
    simp [hk]
  · have hk : k ≠ n := by omega
    simp [hk, List.getElem?_eq_none_iff.2, hgt.le, Nat.succ_le_of_lt hgt]

/-- The invariant after one more character, from what the new fields cover. -/
theorem FieldsRead.concat {st' : ParseState} {c : Char} (h : FieldsRead pre (n + 1) st) (hlast : st'.prev = some c)
    (hruns : ∀ f ∈ st'.fields, f.IsRun (pre.length + (n + 1)) n) (hnames : st'.fields.Pairwise (·.name ≠ ·.name))
    (hcovers : ∀ ch k, isLetter ch → ((∃ f ∈ st'.fields, f.name = ch ∧ f.Covers k) ↔
      (k = n ∧ c = ch) ∨ ∃ f ∈ st.fields, f.name = ch ∧ f.Covers k))
    (hopened : isLetter c →
      ∃ f fs, st'.fields = f :: fs ∧ f.name = c ∧ f.bitWidth + n = f.mostSignificantBitIndex + 1) :
    FieldsRead (pre ++ [c]) n st' := by
  have hlen : (pre ++ [c]).length + n = pre.length + (n + 1) := by
    rw [List.length_append, List.length_singleton, Nat.add_assoc, Nat.add_comm 1]
  refine ⟨by simpa using hlast, hlen ▸ hruns, hnames, fun ch i k hl hik => ?_, fun ch hl hch => ?_⟩
  · rw [hlen] at hik
    rw [getElem?_concat_iff hik, h.places ch i k hl hik, hcovers ch k hl]
  · obtain rfl : c = ch := by simpa using hch
    exact hopened hl

theorem VariableField.IsRun.mono {top m : Nat} {f : VariableField} (h : f.IsRun top m) (hnm : n ≤ m) : f.IsRun top n :=
  ⟨h.letter, h.width_pos, (Nat.add_le_add_left hnm _).trans h.width_le, h.msb_lt⟩

/-- A constant character leaves the fields. -/
theorem FieldsRead.constant {st' : ParseState} {c : Char} (h : FieldsRead pre (n + 1) st) (hc : ¬ isLetter c)
    (hlast : st'.prev = some c) (hfields : st'.fields = st.fields) : FieldsRead (pre ++ [c]) n st' := by
  refine h.concat hlast (hfields ▸ fun f hf => (h.runs f hf).mono (Nat.le_succ n)) (hfields ▸ h.names) (fun ch k hl => ?_)
    fun hl => absurd hl hc
  rw [hfields]
  exact ⟨.inr, fun hor => hor.resolve_left fun ⟨_, heq⟩ => hc (heq ▸ hl)⟩

/-- A letter that has no field yet opens one. -/
theorem FieldsRead.newField {st' : ParseState} {c : Char} (h : FieldsRead pre (n + 1) st) (hc : isLetter c)
    (hnew : ∀ f ∈ st.fields, f.name ≠ c) (hlast : st'.prev = some c) (hfields : st'.fields = ⟨c, n, 1⟩ :: st.fields) :
    FieldsRead (pre ++ [c]) n st' := by
  refine h.concat hlast ?_ ?_ (fun ch k hl => ?_) fun _ => ⟨_, _, hfields, rfl, Nat.add_comm 1 n⟩ <;> rw [hfields]
  · exact List.forall_mem_cons.2 ⟨⟨hc, Nat.one_pos, (Nat.add_comm 1 n).le, by change n < _; omega⟩,
      fun f hf => (h.runs f hf).mono (Nat.le_succ n)⟩
  · exact List.pairwise_cons.2 ⟨fun f hf => (hnew f hf).symm, h.names⟩
  · have hcov : VariableField.Covers ⟨c, n, 1⟩ k ↔ k = n := by simp only [VariableField.Covers]; omega
    simp only [List.exists_mem_cons_iff, hcov, and_comm (a := c = ch)]

/-- The letter of the open field widens it. -/
theorem FieldsRead.widen {st' : ParseState} {c : Char} (h : FieldsRead pre (n + 1) st) (hc : isLetter c)
    (hprev : st.prev = some c) (hlast : st'.prev = some c) (hfields : st'.fields = widenHead st.fields) :
    FieldsRead (pre ++ [c]) n st' := by
  obtain ⟨f, fs, hff, rfl, hwidth⟩ := h.opened c hc (h.last ▸ hprev)
  have hruns := h.runs
  have hnames := h.names
  rw [hff, widenHead] at hfields
  rw [hff] at hruns hnames
  obtain ⟨⟨-, -, -, hlt⟩, hrest⟩ := List.forall_mem_cons.1 hruns
  have hwide : f.bitWidth + 1 + n = f.mostSignificantBitIndex + 1 := by omega
  refine h.concat hlast ?_ ?_ (fun ch k hl => ?_) fun _ => ⟨_, _, hfields, rfl, hwide⟩ <;>
    rw [hfields]
  · exact List.forall_mem_cons.2 ⟨⟨hc, Nat.succ_pos _, hwide.le, hlt⟩,
      fun g hg => (hrest g hg).mono (Nat.le_succ n)⟩
  · obtain ⟨hfirst, hpairs⟩ := List.pairwise_cons.1 hnames
    exact List.pairwise_cons.2 ⟨hfirst, hpairs⟩
  · have hcov : VariableField.Covers { f with bitWidth := f.bitWidth + 1 } k ↔ k = n ∨ f.Covers k := by
      simp only [VariableField.Covers]; omega
    rw [hff]
    simp only [List.exists_mem_cons_iff, hcov]
    tauto

end

/-! ## One character -/

/-- What the parser does with the next character: it reads on with the invariant; or the character is outside the alphabet;
or it is a letter that comes back after its field closed. -/
theorem parseChars_cons {pre : List Char} {c : Char} {cs : List Char} {st : ParseState}
    (h : FieldsRead pre (cs.length + 1) st) :
    ((c = '0' ∨ c = '1' ∨ isLetter c ∧ (c ∈ pre → pre.getLast? = some c)) ∧
      ∃ st', parseChars (c :: cs) st = parseChars cs st' ∧ FieldsRead (pre ++ [c]) cs.length st') ∨
    (c ≠ '0' ∧ c ≠ '1' ∧ ¬ isLetter c ∧ parseChars (c :: cs) st = .error .malformed) ∨
    (isLetter c ∧ c ∈ pre ∧ pre.getLast? ≠ some c ∧ parseChars (c :: cs) st = .error .repeatedLetter) := by
  rw [parseChars]
  by_cases h0 : c = '0'
  · exact .inl ⟨.inl h0, _, if_pos h0, h.constant (h0 ▸ by decide) rfl rfl⟩
  by_cases h1 : c = '1'
  · exact .inl ⟨.inr (.inl h1), _, (if_neg h0).trans (if_pos h1), h.constant (h1 ▸ by decide) rfl rfl⟩
  rw [if_neg h0, if_neg h1]
  by_cases hl : isLetter c
  swap
  · exact .inr (.inl ⟨h0, h1, hl, if_neg (mt (isFieldLetter_iff c).1 hl)⟩)
  rw [if_pos ((isFieldLetter_iff c).2 hl)]
  by_cases hp : st.prev = some c
  · exact .inl ⟨.inr (.inr ⟨hl, fun _ => h.last ▸ hp⟩), _, if_pos hp, h.widen hl hp hp rfl⟩
  rw [if_neg hp]
  by_cases hmem : c ∈ pre
  · have hfield : st.fields.any (fun f => f.name = c) = true := by simpa using (h.mem_iff hl).1 hmem
    exact .inr (.inr ⟨hl, hmem, h.last ▸ hp, if_pos hfield⟩)
  · have hnew : ∀ f ∈ st.fields, f.name ≠ c := fun f hf hname => hmem ((h.mem_iff hl).2 ⟨f, hf, hname⟩)
    exact .inl ⟨.inr (.inr ⟨hl, fun hm => absurd hm hmem⟩), _, if_neg (by simpa using hnew),
      h.newField hl hnew rfl rfl⟩

/-- A text that is read to the end leaves the invariant. -/
theorem parseChars_ok_fields {cs pre : List Char} {st st' : ParseState} (h : FieldsRead pre cs.length st)
    (hok : parseChars cs st = .ok st') : FieldsRead (pre ++ cs) 0 st' := by
  induction cs generalizing pre st with
  | nil => cases hok; simpa using h
  | cons c cs ih =>
    rcases parseChars_cons h with ⟨-, st₁, heq, h₁⟩ | ⟨-, -, -, herr⟩ | ⟨-, -, -, herr⟩
    · simpa using ih h₁ (heq ▸ hok)
    · cases herr.symm.trans hok
    · cases herr.symm.trans hok

/-! ## A field's bits -/

section
variable {f : VariableField} {n : Nat} (h : f.IsRun 8 n)
include h

theorem VariableField.IsRun.mask_getLsbD (k : Nat) : f.mask.getLsbD k = true ↔
    f.mostSignificantBitIndex + 1 - f.bitWidth ≤ k ∧ k ≤ f.mostSignificantBitIndex := by
  obtain ⟨-, hpos, hle, hlt⟩ := h
  simp only [VariableField.mask, BitVec.getLsbD_ofNat, Nat.testBit_mul_two_pow, Nat.testBit_two_pow_sub_one,
    Bool.and_eq_true, decide_eq_true_eq]
  omega

theorem VariableField.IsRun.extract_eq (b : Byte) :
    f.extract b = b.toNat / 2 ^ (f.mostSignificantBitIndex + 1 - f.bitWidth) % 2 ^ f.bitWidth := by
  refine Nat.eq_of_testBit_eq fun i => ?_
  rw [VariableField.extract, Nat.testBit_div_two_pow, BitVec.testBit_toNat, BitVec.getLsbD_and, Nat.testBit_mod_two_pow,
    Nat.testBit_div_two_pow, BitVec.testBit_toNat, Bool.and_comm]
  congr 1
  rw [Bool.eq_iff_iff, h.mask_getLsbD, decide_eq_true_iff]
  obtain ⟨-, -, hle, -⟩ := h
  omega

end

/-- The only element of a list that meets a test is what `find?` finds. -/
theorem find?_eq_some_of_unique {α : Type} {p : α → Bool} {l : List α} {a : α} (ha : a ∈ l) (hp : p a = true)
    (huniq : ∀ b ∈ l, p b = true → b = a) : l.find? p = some a := by
  cases hfind : l.find? p with
  | none => exact absurd hp (List.find?_eq_none.1 hfind a ha)
  | some b => rw [huniq b (List.mem_of_find?_eq_some hfind) (List.find?_some hfind)]

/-! ## A parsed template -/

/-- What a text that parses has been read to. -/
theorem parseTemplate_ok {text : String} {t : Template} (h : parseTemplate text = .ok t) :
    text.toList.length = 8 ∧ t.sourceText = text ∧
      t.constMask = BitVec.ofNat 8 (BitVec.ofBoolListBE (text.toList.map isConstant)).toNat ∧
      t.constVal = BitVec.ofNat 8 (BitVec.ofBoolListBE (text.toList.map (· = '1'))).toNat ∧
      ∃ st, FieldsRead text.toList 0 st ∧ t.fields = st.fields.reverse := by
  rw [parseTemplate] at h
  split_ifs at h with hlen
  split at h
  · cases h
  · next st hst =>
    cases h
    obtain ⟨hmask, hval⟩ := parseChars_ok_constants hst
    rw [Nat.zero_add] at hmask hval
    exact ⟨not_not.1 hlen, rfl, by rw [hmask], by rw [hval], st, parseChars_ok_fields (fieldsRead_nil _) hst, rfl⟩

section
variable {text : String} {t : Template} {i : Nat} {ch : Char}

/-- The bits of a byte read off eight characters, the first of them bit 7. -/
theorem getLsbD_ofBoolListBE_text {cs : List Char} (hlen : cs.length = 8) (p : Char → Bool) (hch : cs[i]? = some ch) :
    (BitVec.ofNat 8 (BitVec.ofBoolListBE (cs.map p)).toNat).getLsbD (7 - i) = p ch := by
  have hi : i < 8 := hlen ▸ (List.getElem?_eq_some_iff.1 hch).1
  have hidx : 8 - 1 - (7 - i) = i := by omega
  have hlt : 7 - i < 8 := by omega
  rw [BitVec.getLsbD_ofNat, BitVec.testBit_toNat, BitVec.getLsbD_ofBoolListBE, List.length_map, hlen, hidx]
  simp [hlt, hch]

theorem parseTemplate_ok_constMask (h : parseTemplate text = .ok t) (hch : text.toList[i]? = some ch) :
    t.constMask.getLsbD (7 - i) = isConstant ch := by
  obtain ⟨hlen, -, hmask, -⟩ := parseTemplate_ok h
  rw [hmask, getLsbD_ofBoolListBE_text hlen _ hch]

theorem parseTemplate_ok_constVal (h : parseTemplate text = .ok t) (hch : text.toList[i]? = some ch) :
    t.constVal.getLsbD (7 - i) = decide (ch = '1') := by
  obtain ⟨hlen, -, -, hval, -⟩ := parseTemplate_ok h
  rw [hval, getLsbD_ofBoolListBE_text hlen _ hch]

theorem parseTemplate_ok_getElem? (h : parseTemplate text = .ok t) (hi : i < 8) : ∃ ch, text.toList[i]? = some ch :=
  ⟨_, List.getElem?_eq_getElem ((parseTemplate_ok h).1 ▸ hi)⟩

/-- Two bytes are equal where they agree at the place of every character of a text. -/
theorem byte_eq_iff (x y : Byte) : x = y ↔ ∀ i, i < 8 → x.getLsbD (7 - i) = y.getLsbD (7 - i) := by
  refine ⟨fun h _ _ => by rw [h], fun h => BitVec.eq_of_getMsbD_eq fun i hi => ?_⟩
  rw [BitVec.getMsbD_eq_getLsbD, BitVec.getMsbD_eq_getLsbD, h i hi]

theorem parseTemplate_ok_test (h : parseTemplate text = .ok t) (b : Byte) : t.test b = true ↔ ∀ i, i < 8 →
    (text.toList[i]? = some '0' → b.getLsbD (7 - i) = false) ∧ (text.toList[i]? = some '1' → b.getLsbD (7 - i) = true) := by
  rw [Template.test, decide_eq_true_iff, byte_eq_iff]
  refine forall₂_congr fun i hi => ?_
  obtain ⟨ch, hch⟩ := parseTemplate_ok_getElem? h hi
  rw [BitVec.getLsbD_and, parseTemplate_ok_constMask h hch, parseTemplate_ok_constVal h hch, hch]
  by_cases h0 : ch = '0'
  · simp [h0, isConstant]
  by_cases h1 : ch = '1' <;> simp [h0, h1, isConstant]

/-- The value of a letter's field (R55). -/
theorem field_eq_extract {f : VariableField} (hf : f ∈ t.fields) (huniq : ∀ g ∈ t.fields, g.name = f.name → g = f)
    (b : Byte) : t.field b f.name = f.extract b := by
  have hfind : t.fields.find? (fun g => g.name = f.name) = some f :=
    find?_eq_some_of_unique hf (decide_eq_true rfl) fun g hg hp => huniq g hg (of_decide_eq_true hp)
  rw [Template.field, hfind]

end

/-- Settles O56: the constants are the bits of the text, and the fields are what the parser's invariant says at its end. -/
theorem templateTestAndFields : Obligations.TemplateTestAndFields := by
  unfold Obligations.TemplateTestAndFields
  intro text t h
  obtain ⟨hlen, hsrc, -, -, st, hread, hfields⟩ := parseTemplate_ok h
  have hmem : ∀ f, f ∈ t.fields ↔ f ∈ st.fields := fun f => by rw [hfields, List.mem_reverse]
  have hruns : ∀ f ∈ t.fields, f.IsRun 8 0 := fun f hf => hlen ▸ hread.runs f ((hmem f).1 hf)
  refine ⟨hsrc, parseTemplate_ok_test h, fun i hi => ?_, fun ch i hl hi => ?_, fun f hf => ?_⟩
  · obtain ⟨ch, hch⟩ := parseTemplate_ok_getElem? h hi
    rw [parseTemplate_ok_constMask h hch, hch]
    simp [isConstant]
  · rw [hread.places ch i (7 - i) hl (by omega)]
    simp only [← hmem]
    refine exists_congr fun f => and_congr_right fun hf => and_congr_right fun _ => ?_
    rw [(hruns f hf).mask_getLsbD, VariableField.Covers]
    omega
  · obtain ⟨hl, hpos, hle, hlt⟩ := hruns f hf
    have huniq : ∀ g ∈ t.fields, g.name = f.name → g = f := fun g hg =>
      List.inj_on_of_nodup_map (List.pairwise_map.2 hread.names) ((hmem g).1 hg) ((hmem f).1 hf)
    exact ⟨hl, hpos, hle, hlt, fun k _ => (hruns f hf).mask_getLsbD k, huniq,
      fun b => ⟨(hruns f hf).extract_eq b, field_eq_extract hf huniq b⟩⟩

end Sys2Proof.Machine

/-! # Proofs: registration and its refusals (30_encoding.md R52, R53, R58, R61) -/

namespace Sys2Proof.Machine

open Sys2Proof.Spec

/-! ## A prefix without an offending character -/

theorem noOffence_of_concat {pre : List Char} {c : Char} (h : NoOffence (pre ++ [c])) :
    NoOffence pre ∧ (c = '0' ∨ c = '1' ∨ isLetter c ∧ (c ∈ pre → pre.getLast? = some c)) := by
  obtain ⟨halpha, hruns⟩ := h
  have hpre : ∀ {i} {ch : Char}, pre[i]? = some ch → (pre ++ [c])[i]? = some ch := fun hi => by
    rw [List.getElem?_append_left (List.getElem?_eq_some_iff.1 hi).1, hi]
  refine ⟨⟨fun ch hch => halpha ch (List.mem_append_left _ hch), fun i j k ch hl hij hjk hi hk => ?_⟩, ?_⟩
  · have hj := hruns i j k ch hl hij hjk (hpre hi) (hpre hk)
    rwa [List.getElem?_append_left (hjk.trans (List.getElem?_eq_some_iff.1 hk).1)] at hj
  · refine (halpha c List.mem_concat_self).imp id (Or.imp id fun hl => ⟨hl, fun hmem => ?_⟩)
    obtain ⟨i, hlt, hget⟩ := List.getElem_of_mem hmem
    have hi : pre[i]? = some c := by rw [List.getElem?_eq_getElem hlt, hget]
    rw [List.getLast?_eq_getElem?]
    rcases Nat.lt_or_ge i (pre.length - 1) with hbefore | hend
    · have hj := hruns i (pre.length - 1) pre.length c hl hbefore (by omega) (hpre hi) List.getElem?_concat_length
      rwa [List.getElem?_append_left (by omega)] at hj
    · obtain rfl : i = pre.length - 1 := by omega
      exact hi

/-- The parser reads over a prefix without an offending character. -/
theorem exists_parseChars_append {pre : List Char} (h : NoOffence pre) (post : List Char) :
    ∃ st, parseChars (pre ++ post) ⟨0, 0, [], none⟩ = parseChars post st ∧ FieldsRead pre post.length st := by
  induction pre using List.reverseRecOn generalizing post with
  | nil => exact ⟨_, rfl, fieldsRead_nil _⟩
  | append_singleton pre c ih =>
    obtain ⟨hpre, hc⟩ := noOffence_of_concat h
    obtain ⟨st, heq, hread⟩ := ih hpre (c :: post)
    rw [List.append_assoc, List.singleton_append, heq]
    rcases parseChars_cons hread with ⟨-, hnext⟩ | ⟨h0, h1, hl, -⟩ | ⟨hl, hmem, hlast, -⟩
    · exact hnext
    · exact absurd hc fun hor => hor.elim h0 fun hor => hor.elim h1 fun hand => hl hand.1
    · rcases hc with rfl | rfl | ⟨-, hin⟩
      · exact absurd hl (by decide)
      · exact absurd hl (by decide)
      · exact absurd (hin hmem) hlast

section
variable {text : String} {pre post : List Char} {ch : Char}

theorem parseTemplate_of_error {e : ParseFailure} (hlen : text.toList.length = 8)
    (h : parseChars text.toList ⟨0, 0, [], none⟩ = .error e) : parseTemplate text = .error e := by
  rw [parseTemplate, if_neg (not_not.2 hlen), h]

/-- The first offending character is outside the alphabet. -/
theorem parseTemplate_malformed (hlen : text.toList.length = 8) (htext : text.toList = pre ++ ch :: post)
    (hpre : NoOffence pre) (h0 : ch ≠ '0') (h1 : ch ≠ '1') (hl : ¬ isLetter ch) : parseTemplate text = .error .malformed := by
  obtain ⟨st, heq, hread⟩ := exists_parseChars_append hpre (ch :: post)
  refine parseTemplate_of_error hlen (htext ▸ heq.trans ?_)
  rcases parseChars_cons hread with ⟨hc, -⟩ | ⟨-, -, -, herr⟩ | ⟨hl', -⟩
  · exact absurd hc fun hor => hor.elim h0 fun hor => hor.elim h1 fun hand => hl hand.1
  · exact herr
  · exact absurd hl' hl

/-- The first offending character is a letter that comes back after its field closed. -/
theorem parseTemplate_repeatedLetter (hlen : text.toList.length = 8) (htext : text.toList = pre ++ ch :: post)
    (hpre : NoOffence pre) (hl : isLetter ch) (hmem : ch ∈ pre) (hlast : pre.getLast? ≠ some ch) :
    parseTemplate text = .error .repeatedLetter := by
  obtain ⟨st, heq, hread⟩ := exists_parseChars_append hpre (ch :: post)
  refine parseTemplate_of_error hlen (htext ▸ heq.trans ?_)
  rcases parseChars_cons (c := ch) hread with ⟨rfl | rfl | ⟨-, hin⟩, -⟩ | ⟨-, -, hl', -⟩ | ⟨-, -, -, herr⟩
  · exact absurd hl (by decide)
  · exact absurd hl (by decide)
  · exact absurd (hin hmem) hlast
  · exact absurd hl hl'
  · exact herr

theorem exists_parseTemplate_ok (hlen : text.toList.length = 8) (h : NoOffence text.toList) :
    ∃ p, parseTemplate text = .ok p := by
  obtain ⟨st, heq, -⟩ := exists_parseChars_append h []
  rw [List.append_nil] at heq
  exact ⟨_, by rw [parseTemplate, if_neg (not_not.2 hlen), heq]; rfl⟩

end

/-! ## The two duplicates (R58, R61) -/

section
variable {ix : PatternIndex} {p : Template}

theorem PatternIndex.add_constant (h : p.isFullyConstant = true) :
    ix.add p = if ix.constMap.any (fun e => e.1 = p.constVal) then none
      else some { ix with constMap := ix.constMap ++ [(p.constVal, p)] } := if_pos h

theorem PatternIndex.add_nonconstant (h : p.isFullyConstant = false) :
    ix.add p = if (Node.templatesList ix.roots).any (fun u => u.constMask = p.constMask && u.constVal = p.constVal) then none
      else some { ix with roots := Node.insert p ix.roots } := if_neg (h ▸ Bool.false_ne_true)

/-- A key of the constant map is taken. -/
theorem PatternIndex.any_key_iff {b : Byte} : ix.constMap.any (fun e => e.1 = b) = true ↔ ∃ q, (b, q) ∈ ix.constMap := by
  simp

theorem PatternIndex.any_pattern_iff {ts : List Template} :
    ts.any (fun u => u.constMask = p.constMask && u.constVal = p.constVal) = true ↔
      ∃ u ∈ ts, u.constMask = p.constMask ∧ u.constVal = p.constVal := by
  simp

end

section
variable {ip : Interpreter} {text : String} {h : Handler} {t : TableIx} {p : Template}

theorem addInstruction_malformed (hparse : parseTemplate text = .error .malformed) :
    ip.addInstruction text h t = .error (.templateParse t text) := by
  rw [Interpreter.addInstruction, hparse]

theorem addInstruction_repeatedLetter (hparse : parseTemplate text = .error .repeatedLetter) :
    ip.addInstruction text h t = .error (.duplicateOpcode t text) := by
  rw [Interpreter.addInstruction, hparse]

theorem addInstruction_duplicate (hparse : parseTemplate text = .ok p) (hadd : (ip.index t).add p = none) :
    ip.addInstruction text h t = .error (.duplicateOpcode t text) := by
  simp only [Interpreter.addInstruction, hparse, hadd]

theorem exists_addInstruction_ok {ix : PatternIndex} (hparse : parseTemplate text = .ok p)
    (hadd : (ip.index t).add p = some ix) : ∃ ip', ip.addInstruction text h t = .ok ip' :=
  ⟨_, addInstruction_ok.2 ⟨p, ix, hparse, hadd, rfl⟩⟩

end

/-- Settles O57: the parser's answer at the first offending character, and the two duplicates of the index. -/
theorem registrationRefusals : Obligations.RegistrationRefusals := by
  unfold Obligations.RegistrationRefusals
  refine ⟨fun ip text h t hlen => addInstruction_malformed (if_pos hlen),
    fun ip text h t pre ch post hlen htext hpre h0 h1 hl =>
      addInstruction_malformed (parseTemplate_malformed hlen htext hpre h0 h1 hl),
    fun ip text h t pre ch post hlen htext hpre hl hmem hlast =>
      addInstruction_repeatedLetter (parseTemplate_repeatedLetter hlen htext hpre hl hmem hlast),
    fun text => exists_parseTemplate_ok, ?_, ?_, ?_, ?_⟩
  · intro ip text h t p q hparse hconst hkey
    exact addInstruction_duplicate hparse
      ((PatternIndex.add_constant hconst).trans (if_pos (PatternIndex.any_key_iff.2 ⟨q, hkey⟩)))
  · intro ip text h t p u hparse hconst hmem hmask hval
    exact addInstruction_duplicate hparse
      ((PatternIndex.add_nonconstant hconst).trans (if_pos (PatternIndex.any_pattern_iff.2 ⟨u, hmem, hmask, hval⟩)))
  · intro ip text h t p hparse hconst hfree
    exact exists_addInstruction_ok hparse
      ((PatternIndex.add_constant hconst).trans (if_neg fun hany => (PatternIndex.any_key_iff.1 hany).elim hfree))
  · intro ip text h t p hparse hconst hfree
    exact exists_addInstruction_ok hparse ((PatternIndex.add_nonconstant hconst).trans
      (if_neg fun hany => (PatternIndex.any_pattern_iff.1 hany).elim fun u hu => hfree u hu.1 hu.2))

end Sys2Proof.Machine

/-! # Proofs: the forest of the Pattern Index (30_encoding.md R56 to R62)

A forest is in order (`Forest`) when each node stands in a relation `S` to every node below it, and every two nodes of
different siblings' trees stand in a relation `R`. Placement and adoption each change one list of siblings (`Grafted`). -/

namespace Sys2Proof.Machine

/-! ## The super-pattern relation (R56) -/

section
variable {p q r : Template} {b : Byte}

theorem superPattern_iff : superPattern p q = true ↔
    p.constMask &&& q.constMask = p.constMask ∧ p.constMask ≠ q.constMask ∧ q.constVal &&& p.constMask = p.constVal := by
  simp [superPattern, and_assoc]

/-- What matches a pattern matches its super-patterns. -/
theorem superPattern_test (h : superPattern p q = true) (hq : q.test b = true) : p.test b = true := by
  obtain ⟨hsub, -, hval⟩ := superPattern_iff.1 h
  rw [Template.test, decide_eq_true_iff] at hq ⊢
  rw [← hval, ← hq, BitVec.and_assoc, BitVec.and_comm q.constMask, hsub]

theorem superPattern_trans (h : superPattern p q = true) (h' : superPattern q r = true) : superPattern p r = true := by
  obtain ⟨hpq, hne, hv⟩ := superPattern_iff.1 h
  obtain ⟨hqr, -, hv'⟩ := superPattern_iff.1 h'
  refine superPattern_iff.2 ⟨by rw [← hpq, BitVec.and_assoc, hqr], fun heq => hne ?_, ?_⟩
  · rw [← hpq, heq, BitVec.and_comm, hqr]
  · rw [← hv, ← hv', BitVec.and_assoc, BitVec.and_comm q.constMask, hpq]

theorem superPattern_irrefl (p : Template) : superPattern p p = false := by simp [superPattern]

/-- A super-pattern has fewer constant bits. -/
theorem superPattern_popcount (h : superPattern p q = true) : popcount p.constMask < popcount q.constMask := by
  obtain ⟨hsub, hne, -⟩ := superPattern_iff.1 h
  have himp : ∀ i, p.constMask.getLsbD i = true → q.constMask.getLsbD i = true := fun i hi => by
    rw [← hsub, BitVec.getLsbD_and, Bool.and_eq_true] at hi
    exact hi.2
  have hsublist := List.monotone_filter_right (List.range 8) himp
  refine lt_of_le_of_ne hsublist.length_le fun hlen => hne (BitVec.eq_of_getLsbD_eq fun i hi => ?_)
  have hfilter := hsublist.eq_of_length hlen
  have hmem := congrArg (i ∈ ·) hfilter
  simpa [hi] using hmem

end

/-! ## Lists of nodes -/

/-- Induction over a list of nodes: the children of the first, and the others. -/
theorem Node.list_induction {P : List Node → Prop} (nil : P [])
    (cons : ∀ p cs ms, P cs → P ms → P (.mk p cs :: ms)) : ∀ ms, P ms
  | [] => nil
  | .mk p cs :: ms => cons p cs ms (Node.list_induction nil cons cs) (Node.list_induction nil cons ms)

@[simp] theorem Node.templatesList_nil : Node.templatesList [] = [] := rfl

@[simp] theorem Node.templatesList_cons (p : Template) (cs ms : List Node) :
    Node.templatesList (.mk p cs :: ms) = p :: (Node.templatesList cs ++ Node.templatesList ms) := rfl

@[simp] theorem Node.templatesList_append (ms ns : List Node) :
    Node.templatesList (ms ++ ns) = Node.templatesList ms ++ Node.templatesList ns := by
  induction ms with
  | nil => rfl
  | cons m ms ih => rw [List.cons_append, Node.templatesList, ih, Node.templatesList, List.append_assoc]

theorem Node.eq_nil_of_templatesList {ms : List Node} (h : ∀ u, u ∉ Node.templatesList ms) : ms = [] := by
  match ms, h with
  | [], _ => rfl
  | .mk p _ :: _, h => exact absurd (List.mem_cons_self ..) (h p)

/-! ## Forests in order -/

section
variable {S R S' R' : Template → Template → Prop}

/-- A list of trees in order: a node is in `S` to each below it, and nodes of two siblings' trees are in `R`. -/
inductive Forest (S R : Template → Template → Prop) : List Node → Prop
  | nil : Forest S R []
  | cons {p : Template} {cs ms : List Node} (below : ∀ u ∈ Node.templatesList cs, S p u) (children : Forest S R cs)
      (others : Forest S R ms) (beside : ∀ u ∈ p :: Node.templatesList cs, ∀ v ∈ Node.templatesList ms, R u v) :
      Forest S R (.mk p cs :: ms)

theorem forest_cons_iff {p : Template} {cs ms : List Node} : Forest S R (.mk p cs :: ms) ↔
    (∀ u ∈ Node.templatesList cs, S p u) ∧ Forest S R cs ∧ Forest S R ms ∧
      ∀ u ∈ p :: Node.templatesList cs, ∀ v ∈ Node.templatesList ms, R u v :=
  ⟨fun h => by cases h with | cons below children others beside => exact ⟨below, children, others, beside⟩,
    fun ⟨below, children, others, beside⟩ => .cons below children others beside⟩

theorem Forest.append {ms ns : List Node} (hm : Forest S R ms) (hn : Forest S R ns)
    (hmn : ∀ u ∈ Node.templatesList ms, ∀ v ∈ Node.templatesList ns, R u v) : Forest S R (ms ++ ns) := by
  induction hm with
  | nil => exact hn
  | @cons p cs ms below children others beside _ ih =>
    rw [Node.templatesList_cons, ← List.cons_append] at hmn
    obtain ⟨hfirst, hrest⟩ := List.forall_mem_append.1 hmn
    rw [List.cons_append, forest_cons_iff, Node.templatesList_append]
    refine ⟨below, children, ih hrest, fun u hu => ?_⟩
    exact List.forall_mem_append.2 ⟨beside u hu, hfirst u hu⟩

theorem Forest.of_append {ms ns : List Node} (h : Forest S R (ms ++ ns)) : Forest S R ms ∧ Forest S R ns ∧
    ∀ u ∈ Node.templatesList ms, ∀ v ∈ Node.templatesList ns, R u v := by
  induction ms with
  | nil => exact ⟨.nil, h, nofun⟩
  | cons m ms ih =>
    obtain ⟨p, cs⟩ := m
    rw [List.cons_append, forest_cons_iff, Node.templatesList_append] at h
    obtain ⟨below, children, others, beside⟩ := h
    obtain ⟨hm, hn, hmn⟩ := ih others
    refine ⟨.cons below children hm fun u hu v hv => beside u hu v (List.mem_append_left _ hv), hn, ?_⟩
    rw [Node.templatesList_cons, ← List.cons_append]
    exact List.forall_mem_append.2 ⟨fun u hu v hv => beside u hu v (List.mem_append_right _ hv), hmn⟩

theorem Forest.mono {ms : List Node} (h : Forest S R ms) (hS : ∀ p ∈ Node.templatesList ms, ∀ u, S p u → S' p u)
    (hR : ∀ u ∈ Node.templatesList ms, ∀ v ∈ Node.templatesList ms, R u v → R' u v) : Forest S' R' ms := by
  induction h with
  | nil => exact .nil
  | @cons p cs ms below children others beside ihc iho =>
    rw [Node.templatesList_cons] at hS hR
    have hc : Node.templatesList cs ⊆ p :: (Node.templatesList cs ++ Node.templatesList ms) :=
      fun u hu => .tail _ (List.mem_append_left _ hu)
    have hm : Node.templatesList ms ⊆ p :: (Node.templatesList cs ++ Node.templatesList ms) :=
      fun u hu => .tail _ (List.mem_append_right _ hu)
    exact .cons (fun u hu => hS p (.head _) u (below u hu))
      (ihc (fun u hu => hS u (hc hu)) fun u hu v hv => hR u (hc hu) v (hc hv))
      (iho (fun u hu => hS u (hm hu)) fun u hu v hv => hR u (hm hu) v (hm hv))
      fun u hu v hv => hR u (List.cons_subset_cons p (List.subset_append_left ..) hu) v (hm hv) (beside u hu v hv)

/-! ## A change of one list of siblings -/

/-- Below the first node, or below one of its siblings, a list of siblings is changed by `Q`, and every node above it is a
super-pattern of what was added. -/
inductive Grafted (added : List Template) (Q : List Node → List Node → Prop) : List Node → List Node → Prop
  | here {p : Template} {cs cs' ms : List Node} (above : ∀ u ∈ added, superPattern p u = true) (change : Q cs cs') :
      Grafted added Q (.mk p cs :: ms) (.mk p cs' :: ms)
  | deeper {p : Template} {cs cs' ms : List Node} (above : ∀ u ∈ added, superPattern p u = true)
      (change : Grafted added Q cs cs') : Grafted added Q (.mk p cs :: ms) (.mk p cs' :: ms)
  | skip {m : Node} {ms ms' : List Node} (change : Grafted added Q ms ms') : Grafted added Q (m :: ms) (m :: ms')

variable {added : List Template} {Q : List Node → List Node → Prop} {ms ms' : List Node}

theorem Grafted.perm (hQ : ∀ cs cs', Q cs cs' → (Node.templatesList cs').Perm (added ++ Node.templatesList cs))
    (h : Grafted added Q ms ms') : (Node.templatesList ms').Perm (added ++ Node.templatesList ms) := by
  have hinto : ∀ {p : Template} {cs cs' ms : List Node}, (Node.templatesList cs').Perm (added ++ Node.templatesList cs) →
      (Node.templatesList (.mk p cs' :: ms)).Perm (added ++ Node.templatesList (.mk p cs :: ms)) := fun hperm => by
    simp only [Node.templatesList_cons]
    exact ((hperm.append_right _).cons _).trans (by rw [List.append_assoc]; exact List.perm_middle.symm)
  induction h with
  | here _ change => exact hinto (hQ _ _ change)
  | deeper _ _ ih => exact hinto ih
  | @skip m ms ms' _ ih =>
    simp only [Node.templatesList]
    exact (ih.append_left _).trans (by simp only [← List.append_assoc]; exact List.perm_append_comm.append_right _)

/-- What is added is added below some node. -/
theorem Grafted.exists_above (h : Grafted added Q ms ms') :
    ∃ p ∈ Node.templatesList ms, ∀ u ∈ added, superPattern p u = true := by
  induction h with
  | @here p _ _ _ above _ => exact ⟨p, by simp, above⟩
  | @deeper p _ _ _ above _ _ => exact ⟨p, by simp, above⟩
  | skip _ ih =>
    obtain ⟨p, hp, habove⟩ := ih
    exact ⟨p, List.mem_append_right _ hp, habove⟩

/-- A change that keeps the order of the siblings it is made to keeps the order of the whole. -/
theorem Grafted.forest (hQ : ∀ cs cs', Q cs cs' → (Node.templatesList cs').Perm (added ++ Node.templatesList cs))
    (hQF : ∀ cs cs', Q cs cs' → Forest S R cs → Forest S R' cs')
    (hS : ∀ p, ∀ u ∈ added, superPattern p u = true → S p u) (hR : ∀ u v, R u v → R' u v)
    (hleft : ∀ p v, ∀ u ∈ added, superPattern p u = true → R p v → R' u v)
    (hright : ∀ p v, ∀ u ∈ added, superPattern p u = true → R v p → R' v u)
    (h : Grafted added Q ms ms') (hms : Forest S R ms) : Forest S R' ms' := by
  have hinto : ∀ {p : Template} {cs cs' ms : List Node}, (∀ u ∈ added, superPattern p u = true) →
      (Node.templatesList cs').Perm (added ++ Node.templatesList cs) → (Forest S R cs → Forest S R' cs') →
      Forest S R (.mk p cs :: ms) → Forest S R' (.mk p cs' :: ms) := fun above hperm hcs hf => by
    cases hf with
    | cons below children others beside =>
      obtain ⟨hp, hrest⟩ := List.forall_mem_cons.1 beside
      refine .cons (fun u hu => ?_) (hcs children) (others.mono (fun _ _ _ hs => hs) fun u _ v _ => hR u v)
        (List.forall_mem_cons.2 ⟨fun v hv => hR _ _ (hp v hv), fun u hu v hv => ?_⟩) <;>
        rcases List.mem_append.1 (hperm.mem_iff.1 hu) with hnew | hold
      · exact hS _ u hnew (above u hnew)
      · exact below u hold
      · exact hleft _ v u hnew (above u hnew) (hp v hv)
      · exact hR _ _ (hrest u hold v hv)
  induction h with
  | here above change => exact hinto above (hQ _ _ change) (hQF _ _ change) hms
  | deeper above change ih => exact hinto above (change.perm hQ) ih hms
  | skip change ih =>
    cases hms with
    | cons below children others beside =>
      obtain ⟨p, hp, habove⟩ := change.exists_above
      refine .cons below (children.mono (fun _ _ _ hs => hs) fun u _ v _ => hR u v) (ih others) fun u hu v hv => ?_
      rcases List.mem_append.1 ((change.perm hQ).mem_iff.1 hv) with hnew | hold
      · exact hright p u v hnew (habove v hnew) (beside u hu p hp)
      · exact hR _ _ (beside u hu v hold)

end

end Sys2Proof.Machine

/-! # Proofs: placement and adoption keep the forest in order (30_encoding.md R59, R60) -/

namespace Sys2Proof.Machine

/-! ## The orders -/

/-- No byte of `good` matches both. -/
def Separate (good : Byte → Prop) (u v : Template) : Prop := ∀ b, good b → ¬ (u.test b = true ∧ v.test b = true)

/-- The order of siblings between placement and adoption: nodes that `t` is a super-pattern of may still stand beside it. -/
def SeparateBut (good : Byte → Prop) (t u v : Template) : Prop :=
  Separate good u v ∨ u = t ∧ superPattern t v = true ∨ v = t ∧ superPattern t u = true

/-- The order of a node and those below it while `t` is a leaf. -/
def AboveBut (t p u : Template) : Prop := superPattern p u = true ∧ p ≠ t

section
variable {good : Byte → Prop} {t p u v : Template}

theorem Separate.symm (h : Separate good u v) : Separate good v u := fun b hb hvu => h b hb hvu.symm

/-- What a pattern is separate from, its sub-patterns are. -/
theorem Separate.of_super (h : Separate good p v) (hp : superPattern p u = true) : Separate good u v :=
  fun b hb huv => h b hb ⟨superPattern_test hp huv.1, huv.2⟩

theorem SeparateBut.of_not (h : SeparateBut good t u v) (hu : ¬ (u = t ∧ superPattern t v = true))
    (hv : ¬ (v = t ∧ superPattern t u = true)) : Separate good u v :=
  h.elim id fun h => h.elim (fun h => absurd h hu) fun h => absurd h hv

/-- Above a node stands one of the list. -/
theorem Forest.exists_root {S R : Template → Template → Prop} {ms : List Node} (h : Forest S R ms)
    (hu : u ∈ Node.templatesList ms) : ∃ m ∈ ms, u = m.template ∨ S m.template u := by
  induction h with
  | nil => cases hu
  | @cons p cs ms below _ _ _ _ ih =>
    rw [Node.templatesList_cons, List.mem_cons, List.mem_append] at hu
    rcases hu with rfl | hcs | hms
    · exact ⟨_, .head _, .inl rfl⟩
    · exact ⟨_, .head _, .inr (below u hcs)⟩
    · obtain ⟨m, hm, hor⟩ := ih hms
      exact ⟨m, .tail _ hm, hor⟩

end

/-! ## Placement (R59) -/

/-- At a good byte that `t` matches, the templates of a list that match too are related to it. -/
def RelatedTo (good : Byte → Prop) (t : Template) (us : List Template) : Prop :=
  ∀ u ∈ us, ∀ b, good b → u.test b = true → t.test b = true → superPattern u t = true ∨ superPattern t u = true

/-- The new node stands at the end of siblings none of which accepts it. -/
def PlacedAtEnd (good : Byte → Prop) (t : Template) (cs cs' : List Node) : Prop :=
  (∀ c ∈ cs, superPattern c.template t = false) ∧ RelatedTo good t (Node.templatesList cs) ∧ cs' = cs ++ [.mk t []]

theorem Node.place_cons (t p : Template) (cs ms : List Node) : Node.place t (.mk p cs :: ms) =
    if superPattern p t then .mk p (Node.place t cs) :: ms else .mk p cs :: Node.place t ms := by
  rw [Node.place, Node.offerList, Node.offer]
  split_ifs
  · rw [Node.place]
    cases Node.offerList t cs <;> rfl
  · rw [Node.place]
    cases Node.offerList t ms <;> rfl

section
variable {good : Byte → Prop} {t : Template} {ms : List Node}

/-- The new node is placed at the end of the roots, or at the end of the children of some node. -/
theorem Node.place_cases (h : RelatedTo good t (Node.templatesList ms)) :
    PlacedAtEnd good t ms (Node.place t ms) ∨ Grafted [t] (PlacedAtEnd good t) ms (Node.place t ms) := by
  induction ms using Node.list_induction with
  | nil => exact .inl ⟨nofun, h, rfl⟩
  | cons p cs ms ihc ihm =>
    obtain ⟨-, hrest⟩ := List.forall_mem_cons.1 h
    obtain ⟨hcs, hms⟩ := List.forall_mem_append.1 hrest
    rw [Node.place_cons]
    split_ifs with hp
    · have above : ∀ u ∈ [t], superPattern p u = true := by simpa using hp
      exact .inr ((ihc hcs).elim (.here above) (.deeper above))
    · refine (ihm hms).imp (fun ⟨hno, _, heq⟩ => ⟨List.forall_mem_cons.2 ⟨Bool.eq_false_iff.2 hp, hno⟩, h, ?_⟩) .skip
      rw [heq, List.cons_append]

theorem PlacedAtEnd.perm {cs cs' : List Node} (h : PlacedAtEnd good t cs cs') :
    (Node.templatesList cs').Perm ([t] ++ Node.templatesList cs) := by
  rw [h.2.2, Node.templatesList_append]
  exact List.perm_append_comm

theorem PlacedAtEnd.forest {cs cs' : List Node} (h : PlacedAtEnd good t cs cs')
    (hcs : Forest (AboveBut t) (Separate good) cs) : Forest (AboveBut t) (SeparateBut good t) cs' := by
  obtain ⟨hno, hrel, rfl⟩ := h
  refine (hcs.mono (fun _ _ _ hs => hs) fun _ _ _ _ => .inl).append (.cons nofun .nil .nil nofun) fun u hu v hv => ?_
  obtain rfl : v = t := by simpa using hv
  by_cases hsep : Separate good u v
  · exact .inl hsep
  · simp only [Separate, not_forall, not_not] at hsep
    obtain ⟨b, hb, hub, hvb⟩ := hsep
    refine .inr (.inr ⟨rfl, (hrel u hu b hb hub hvb).resolve_left fun hsuper => ?_⟩)
    obtain ⟨m, hm, rfl | hmu⟩ := hcs.exists_root hu
    · exact Bool.false_ne_true ((hno m hm).symm.trans hsuper)
    · exact Bool.false_ne_true ((hno m hm).symm.trans (superPattern_trans hmu.1 hsuper))

theorem Node.place_perm (h : RelatedTo good t (Node.templatesList ms)) :
    (Node.templatesList (Node.place t ms)).Perm (t :: Node.templatesList ms) :=
  (Node.place_cases h).elim PlacedAtEnd.perm (Grafted.perm fun _ _ => PlacedAtEnd.perm)

theorem Node.place_forest (h : RelatedTo good t (Node.templatesList ms)) (hms : Forest (AboveBut t) (Separate good) ms) :
    Forest (AboveBut t) (SeparateBut good t) (Node.place t ms) := by
  rcases Node.place_cases h with hend | hgraft
  · exact hend.forest hms
  · refine hgraft.forest (fun _ _ => PlacedAtEnd.perm) (fun _ _ => PlacedAtEnd.forest) ?_ (fun _ _ => .inl)
      (fun p v u _ hp hsep => .inl (hsep.of_super hp)) (fun p v u _ hp hsep => .inl (hsep.symm.of_super hp).symm) hms
    rintro p u hu hp
    obtain rfl : u = t := by simpa using hu
    exact ⟨hp, fun heq => Bool.false_ne_true ((superPattern_irrefl u).symm.trans (heq ▸ hp))⟩

end

/-! ## The scan (R60) -/

theorem Node.scanList_cons (t p : Template) (cs ms : List Node) : Node.scanList t (.mk p cs :: ms) =
    if p = t then (.mk p cs :: (Node.scanList t ms).1, (Node.scanList t ms).2)
    else if superPattern t p then ((Node.scanList t ms).1, .mk p cs :: (Node.scanList t ms).2)
    else (.mk p (Node.scanList t cs).1 :: (Node.scanList t ms).1, (Node.scanList t cs).2 ++ (Node.scanList t ms).2) := by
  rw [Node.scanList]
  rfl

section
variable {t : Template} {ms : List Node} {S R : Template → Template → Prop}

/-- The scan loses no template: each is kept or is in a hit. -/
theorem Node.scanList_perm (t : Template) (ms : List Node) : (Node.templatesList ms).Perm
    (Node.templatesList (Node.scanList t ms).1 ++ Node.templatesList (Node.scanList t ms).2) := by
  induction ms using Node.list_induction with
  | nil => exact .nil
  | cons p cs ms ihc ihm =>
    rw [Node.scanList_cons]
    split_ifs
    · simpa using ihm.append_left _
    · exact (ihm.append_left (p :: Node.templatesList cs)).trans (List.perm_append_comm_assoc ..)
    · simp only [Node.templatesList_cons, Node.templatesList_append, List.cons_append]
      refine ((ihc.append ihm).trans ?_).cons p
      simp only [List.append_assoc]
      exact (List.perm_append_comm_assoc ..).append_left _

theorem Node.mem_of_mem_scanList_fst {u : Template} (h : u ∈ Node.templatesList (Node.scanList t ms).1) :
    u ∈ Node.templatesList ms := (Node.scanList_perm t ms).mem_iff.2 (List.mem_append_left _ h)

theorem Node.mem_of_mem_scanList_snd {u : Template} (h : u ∈ Node.templatesList (Node.scanList t ms).2) :
    u ∈ Node.templatesList ms := (Node.scanList_perm t ms).mem_iff.2 (List.mem_append_right _ h)

/-- What is kept is in order, and so are the hits. -/
theorem Node.scanList_forest (h : Forest S R ms) :
    Forest S R (Node.scanList t ms).1 ∧ Forest S R (Node.scanList t ms).2 := by
  induction h with
  | nil => exact ⟨.nil, .nil⟩
  | @cons p cs ms below children others beside ihc ihm =>
    obtain ⟨hck, hch⟩ := ihc
    obtain ⟨hmk, hmh⟩ := ihm
    have hbeside : ∀ u ∈ p :: Node.templatesList cs, ∀ {v}, v ∈ Node.templatesList (Node.scanList t ms).1 ∨
        v ∈ Node.templatesList (Node.scanList t ms).2 → R u v := fun u hu v hv =>
      beside u hu v (hv.elim Node.mem_of_mem_scanList_fst Node.mem_of_mem_scanList_snd)
    rw [Node.scanList_cons]
    split_ifs
    · exact ⟨.cons below children hmk fun u hu v hv => hbeside u hu (.inl hv), hmh⟩
    · exact ⟨hmk, .cons below children hmh fun u hu v hv => hbeside u hu (.inr hv)⟩
    · refine ⟨.cons (fun u hu => below u (Node.mem_of_mem_scanList_fst hu)) hck hmk fun u hu v hv => ?_,
        hch.append hmh fun u hu v hv => hbeside u (.tail _ (Node.mem_of_mem_scanList_snd hu)) (.inr hv)⟩
      exact hbeside u (List.cons_subset_cons _ (fun _ => Node.mem_of_mem_scanList_fst) hu) (.inl hv)

/-- The new template is a super-pattern of everything in a hit. -/
theorem Node.superPattern_of_mem_scanList_snd (h : Forest (AboveBut t) R ms) :
    ∀ u ∈ Node.templatesList (Node.scanList t ms).2, superPattern t u = true := by
  induction h with
  | nil => nofun
  | @cons p cs ms below _ _ _ ihc ihm =>
    rw [Node.scanList_cons]
    split_ifs with heq hp
    · exact ihm
    · rw [Node.templatesList_cons, ← List.cons_append]
      exact List.forall_mem_append.2 ⟨List.forall_mem_cons.2 ⟨hp, fun u hu => superPattern_trans hp (below u hu).1⟩, ihm⟩
    · rw [Node.templatesList_append]
      exact List.forall_mem_append.2 ⟨ihc, ihm⟩

/-- The new template is a super-pattern of nothing that is kept. -/
theorem Node.not_superPattern_of_mem_scanList_fst (h : Forest (AboveBut t) R ms) :
    ∀ u ∈ Node.templatesList (Node.scanList t ms).1, superPattern t u = false := by
  induction h with
  | nil => nofun
  | @cons p cs ms below _ _ _ ihc ihm =>
    rw [Node.scanList_cons]
    split_ifs with heq hp
    · rw [Node.templatesList_cons]
      refine List.forall_mem_cons.2 ⟨heq ▸ superPattern_irrefl p, List.forall_mem_append.2 ⟨fun u hu => ?_, ihm⟩⟩
      exact absurd heq (below u hu).2
    · exact ihm
    · rw [Node.templatesList_cons]
      exact List.forall_mem_cons.2 ⟨Bool.eq_false_iff.2 hp, List.forall_mem_append.2 ⟨ihc, ihm⟩⟩

end

/-! ## Adoption (R60) -/

/-- The leaf of the new template takes the hits as its children. -/
def Adopted (t : Template) (hits cs cs' : List Node) : Prop :=
  ∃ pre post, cs = pre ++ .mk t [] :: post ∧ cs' = pre ++ .mk t hits :: post

theorem Node.adoptList_cons (t p : Template) (hits cs ms : List Node) : Node.adoptList t hits (.mk p cs :: ms) =
    (if p = t then .mk p (cs ++ hits) else .mk p (Node.adoptList t hits cs)) :: Node.adoptList t hits ms := by
  rw [Node.adoptList, Node.adopt]

section
variable {good : Byte → Prop} {t : Template} {hits ms : List Node} {R : Template → Template → Prop}

theorem Node.adoptList_of_not_mem (h : t ∉ Node.templatesList ms) : Node.adoptList t hits ms = ms := by
  induction ms using Node.list_induction with
  | nil => rfl
  | cons p cs ms ihc ihm =>
    rw [Node.templatesList_cons, List.mem_cons, List.mem_append, not_or, not_or] at h
    obtain ⟨hp, hc, hm⟩ := h
    rw [Node.adoptList_cons, if_neg (Ne.symm hp), ihc hc, ihm hm]

/-- The hits become children of the one node of the new template, which is a leaf, since the new template is a
super-pattern of nothing else that was kept. -/
theorem Node.adoptList_cases (hforest : Forest (AboveBut t) R ms) (hnodup : (Node.templatesList ms).Nodup)
    (hmem : t ∈ Node.templatesList ms) (habove : ∀ u ∈ Node.templatesList hits, superPattern t u = true) :
    Adopted t hits ms (Node.adoptList t hits ms) ∨
      Grafted (Node.templatesList hits) (Adopted t hits) ms (Node.adoptList t hits ms) := by
  induction hforest with
  | nil => cases hmem
  | @cons p cs ms below _ _ _ ihc ihm =>
    rw [Node.templatesList_cons, List.nodup_cons, List.mem_append, not_or, List.nodup_append] at hnodup
    obtain ⟨⟨hpc, hpm⟩, hnc, hnm, hdisj⟩ := hnodup
    rw [Node.adoptList_cons]
    by_cases hp : p = t
    · subst hp
      obtain rfl : cs = [] := Node.eq_nil_of_templatesList fun u hu => (below u hu).2 rfl
      rw [if_pos rfl, Node.adoptList_of_not_mem hpm]
      exact .inl ⟨[], ms, rfl, rfl⟩
    rw [if_neg hp]
    rw [Node.templatesList_cons, List.mem_cons, List.mem_append] at hmem
    rcases hmem.resolve_left (Ne.symm hp) with hc | hm
    · rw [Node.adoptList_of_not_mem (ms := ms) fun hm => hdisj t hc t hm rfl]
      have above : ∀ u ∈ Node.templatesList hits, superPattern p u = true := fun u hu =>
        superPattern_trans (below t hc).1 (habove u hu)
      exact .inr ((ihc hnc hc).elim (.here above) (.deeper above))
    · rw [Node.adoptList_of_not_mem (ms := cs) fun hc => hdisj t hc t hm rfl]
      refine (ihm hnm hm).imp ?_ .skip
      rintro ⟨pre, post, hms, hms'⟩
      exact ⟨.mk p cs :: pre, post, by rw [hms, List.cons_append], by rw [hms', List.cons_append]⟩

theorem Adopted.perm {cs cs' : List Node} (h : Adopted t hits cs cs') :
    (Node.templatesList cs').Perm (Node.templatesList hits ++ Node.templatesList cs) := by
  obtain ⟨pre, post, rfl, rfl⟩ := h
  simp only [Node.templatesList_append, Node.templatesList_cons, Node.templatesList_nil, List.nil_append]
  exact (List.perm_middle.symm.append_left _).trans (List.perm_append_comm_assoc ..)

theorem Adopted.forest {cs cs' : List Node} (h : Adopted t hits cs cs')
    (hhits : Forest (superPattern · · = true) (Separate good) hits)
    (habove : ∀ u ∈ Node.templatesList hits, superPattern t u = true)
    (hcs : Forest (superPattern · · = true) (Separate good) cs) : Forest (superPattern · · = true) (Separate good) cs' := by
  obtain ⟨pre, post, rfl, rfl⟩ := h
  obtain ⟨hpre, hrest, hbeside⟩ := hcs.of_append
  obtain ⟨-, -, hpost, htpost⟩ := forest_cons_iff.1 hrest
  have ht : ∀ {v}, Separate good t v → ∀ u ∈ t :: Node.templatesList hits, Separate good u v :=
    fun h => List.forall_mem_cons.2 ⟨h, fun u hu => h.of_super (habove u hu)⟩
  refine hpre.append (.cons habove hhits hpost fun u hu v hv => ?_) fun u hu v hv => ?_
  · exact ht (htpost t (.head _) v hv) u hu
  · rw [Node.templatesList_cons, ← List.cons_append, List.mem_append] at hv
    rcases hv with hv | hv
    · exact (ht (hbeside u hu t (.head _)).symm v hv).symm
    · exact hbeside u hu v (.tail _ hv)

/-! ## Insertion -/

/-- Insertion adds the new template. -/
theorem Node.insert_perm_forest (hnodup : (t :: Node.templatesList ms).Nodup)
    (hrel : RelatedTo good t (Node.templatesList ms)) (hms : Forest (superPattern · · = true) (Separate good) ms) :
    (Node.templatesList (Node.insert t ms)).Perm (t :: Node.templatesList ms) ∧
      Forest (superPattern · · = true) (Separate good) (Node.insert t ms) := by
  have hperm := Node.place_perm hrel
  have hplaced : Forest (AboveBut t) (SeparateBut good t) (Node.place t ms) :=
    Node.place_forest hrel (hms.mono (fun p hp u hpu => ⟨hpu, fun heq => (List.nodup_cons.1 hnodup).1 (heq ▸ hp)⟩)
      fun _ _ _ _ h => h)
  have hsplit := (Node.scanList_perm t (Node.place t ms)).symm.trans hperm
  have hnodup' := hsplit.nodup_iff.2 hnodup
  obtain ⟨hkept, hhits⟩ := Node.scanList_forest hplaced
  have habove := Node.superPattern_of_mem_scanList_snd hplaced
  have hnot := Node.not_superPattern_of_mem_scanList_fst hplaced
  rw [Node.insert]
  generalize (Node.scanList t (Node.place t ms)).1 = kept, (Node.scanList t (Node.place t ms)).2 = hits at *
  have hself : ∀ u, superPattern t u = true → u ≠ t := fun u hu heq => by simp [heq, superPattern_irrefl] at hu
  have hmem : t ∈ Node.templatesList kept :=
    (List.mem_append.1 (hsplit.mem_iff.2 (.head _))).resolve_right fun h => hself t (habove t h) rfl
  have hkept' : Forest (superPattern · · = true) (Separate good) kept :=
    hkept.mono (fun _ _ _ h => h.1) fun u hu v hv h => h.of_not (by simp [hnot v hv]) (by simp [hnot u hu])
  have hhits' : Forest (superPattern · · = true) (Separate good) hits :=
    hhits.mono (fun _ _ _ h => h.1) fun u hu v hv h =>
      h.of_not (fun hut => hself u (habove u hu) hut.1) fun hvt => hself v (habove v hv) hvt.1
  have hcases := Node.adoptList_cases hkept ((List.nodup_append.1 hnodup').1) hmem habove
  refine ⟨(hcases.elim Adopted.perm (Grafted.perm fun _ _ => Adopted.perm)).trans (List.perm_append_comm.trans hsplit), ?_⟩
  rcases hcases with hadopted | hgraft
  · exact hadopted.forest hhits' habove hkept'
  · exact hgraft.forest (fun _ _ => Adopted.perm) (fun _ _ h => h.forest hhits' habove) (fun _ _ _ => id) (fun _ _ => id)
      (fun p v u _ hp hsep => hsep.of_super hp) (fun p v u _ hp hsep => (hsep.symm.of_super hp).symm) hkept'

end

end Sys2Proof.Machine

/-! # Proofs: the Pattern Index computes `Decode` (30_encoding.md R62 to R65) -/

namespace Sys2Proof.Machine

/-! ## The most specific template -/

/-- `t` matches, and whatever else of the list matches is a super-pattern of it. -/
def IsMostSpecific (ts : List Template) (b : Byte) (t : Template) : Prop :=
  t ∈ ts ∧ t.test b = true ∧ ∀ u ∈ ts, u.test b = true → u = t ∨ superPattern u t = true

section
variable {ts : List Template} {b : Byte} {t : Template}

theorem decodeTemplates_cons_of_test (h : t.test b = true) : decodeTemplates (t :: ts) b =
    match decodeTemplates ts b with
    | none => some t
    | some u => if popcount u.constMask < popcount t.constMask then some t else some u := if_pos h

theorem decodeTemplates_cons_of_not_test (h : t.test b = false) : decodeTemplates (t :: ts) b = decodeTemplates ts b :=
  if_neg (h ▸ Bool.false_ne_true)

theorem decodeTemplates_eq_none (h : ∀ u ∈ ts, u.test b = false) : decodeTemplates ts b = none := by
  induction ts with
  | nil => rfl
  | cons p ts ih =>
    obtain ⟨hp, hts⟩ := List.forall_mem_cons.1 h
    rw [decodeTemplates_cons_of_not_test hp, ih hts]

theorem decodeTemplates_some (h : decodeTemplates ts b = some t) : t ∈ ts ∧ t.test b = true := by
  induction ts with
  | nil => cases h
  | cons p ts ih =>
    have hrest : decodeTemplates ts b = some t → t ∈ p :: ts ∧ t.test b = true := fun h =>
      (ih h).imp_left (List.mem_cons_of_mem _)
    cases hp : p.test b with
    | false => exact hrest (decodeTemplates_cons_of_not_test hp ▸ h)
    | true =>
      rw [decodeTemplates_cons_of_test hp] at h
      split at h
      · cases h; exact ⟨.head _, hp⟩
      · next u hu =>
        split_ifs at h
        · cases h; exact ⟨.head _, hp⟩
        · cases h; exact hrest hu

theorem IsMostSpecific.decodeTemplates_eq (h : IsMostSpecific ts b t) : decodeTemplates ts b = some t := by
  obtain ⟨hmem, htest, hmost⟩ := h
  induction ts with
  | nil => cases hmem
  | cons p ts ih =>
    obtain ⟨hfirst, hothers⟩ := List.forall_mem_cons.1 hmost
    cases hp : p.test b with
    | false =>
      have hmem : t ∈ ts := (List.mem_cons.1 hmem).resolve_left fun heq => by simp [heq, hp] at htest
      rw [decodeTemplates_cons_of_not_test hp, ih hmem hothers]
    | true =>
      rw [decodeTemplates_cons_of_test hp]
      by_cases hin : t ∈ ts
      · have hle : ¬ popcount t.constMask < popcount p.constMask := by
          rcases hfirst hp with rfl | hsuper
          · exact lt_irrefl _
          · exact (superPattern_popcount hsuper).asymm
        simp only [ih hin hothers, if_neg hle]
      · obtain rfl : t = p := (List.mem_cons.1 hmem).resolve_right hin
        split
        · rfl
        · next u hu =>
          obtain ⟨hu, hutest⟩ := decodeTemplates_some hu
          have hsuper := (hothers u hu hutest).resolve_left fun heq => hin (heq ▸ hu)
          rw [if_pos (superPattern_popcount hsuper)]

end

/-! ## The walk of a forest in order (R62) -/

section
variable {good : Byte → Prop} {ms : List Node} {b : Byte} {t : Template}

theorem Node.walkList_cons_of_test {p : Template} {cs : List Node} (h : p.test b = true) :
    Node.walkList b (.mk p cs :: ms) = some ((Node.walkList b cs).getD p) := by
  rw [Node.walkList, Node.template, if_pos h, Node.descend]
  cases Node.walkList b cs <;> rfl

theorem Node.walkList_cons_of_not_test {p : Template} {cs : List Node} (h : p.test b = false) :
    Node.walkList b (.mk p cs :: ms) = Node.walkList b ms := by
  rw [Node.walkList, Node.template, if_neg (h ▸ Bool.false_ne_true)]

/-- What does not match has nothing below it that does. -/
theorem not_test_of_superPattern {p u : Template} (hp : p.test b = false) (h : superPattern p u = true) : u.test b = false :=
  Bool.eq_false_iff.2 fun hu => Bool.false_ne_true (hp.symm.trans (superPattern_test h hu))

theorem Node.walkList_none (h : Forest (superPattern · · = true) (Separate good) ms) (hwalk : Node.walkList b ms = none) :
    ∀ u ∈ Node.templatesList ms, u.test b = false := by
  induction h with
  | nil => nofun
  | @cons p cs ms below _ _ _ _ ihm =>
    cases hp : p.test b with
    | true => rw [Node.walkList_cons_of_test hp] at hwalk; cases hwalk
    | false =>
      rw [Node.walkList_cons_of_not_test hp] at hwalk
      exact List.forall_mem_cons.2
        ⟨hp, List.forall_mem_append.2 ⟨fun u hu => not_test_of_superPattern hp (below u hu), ihm hwalk⟩⟩

/-- At a good byte the walk answers the most specific template of the forest. -/
theorem Node.walkList_some (h : Forest (superPattern · · = true) (Separate good) ms) (hb : good b)
    (hwalk : Node.walkList b ms = some t) : IsMostSpecific (Node.templatesList ms) b t := by
  induction h generalizing t with
  | nil => cases hwalk
  | @cons p cs ms below children _ beside ihc ihm =>
    cases hp : p.test b with
    | false =>
      rw [Node.walkList_cons_of_not_test hp] at hwalk
      obtain ⟨hmem, htest, hmost⟩ := ihm hwalk
      refine ⟨.tail _ (List.mem_append_right _ hmem), htest, List.forall_mem_cons.2 ⟨fun h => ?_,
        List.forall_mem_append.2 ⟨fun u hu h => ?_, hmost⟩⟩⟩
      · exact absurd (hp.symm.trans h) Bool.false_ne_true
      · exact absurd ((not_test_of_superPattern hp (below u hu)).symm.trans h) Bool.false_ne_true
    | true =>
      rw [Node.walkList_cons_of_test hp] at hwalk
      have hothers : ∀ u ∈ Node.templatesList ms, u.test b = true → u = t ∨ superPattern u t = true := fun u hu h =>
        absurd ⟨hp, h⟩ (beside p (.head _) u hu b hb)
      cases hc : Node.walkList b cs with
      | none =>
        rw [hc] at hwalk
        cases hwalk
        have hnone := Node.walkList_none children hc
        exact ⟨.head _, hp, List.forall_mem_cons.2 ⟨fun _ => .inl rfl, List.forall_mem_append.2
          ⟨fun u hu h => absurd ((hnone u hu).symm.trans h) Bool.false_ne_true, hothers⟩⟩⟩
      | some u =>
        rw [hc] at hwalk
        cases hwalk
        obtain ⟨hmem, htest, hmost⟩ := ihc hc
        exact ⟨.tail _ (List.mem_append_left _ hmem), htest, List.forall_mem_cons.2 ⟨fun _ => .inr (below u hmem),
          List.forall_mem_append.2 ⟨hmost, hothers⟩⟩⟩

end

end Sys2Proof.Machine

/-! # Proofs: registering a well-formed table (30_encoding.md R58, R61, R64, R65) -/

namespace Sys2Proof.Machine

/-! ## Well-formed tables (R64) -/

/-- The constant positions of a template and their values. -/
def Template.pattern (t : Template) : Byte × Byte := (t.constMask, t.constVal)

/-- A byte that is no key of the constant map. -/
def NoKey (ts : List Template) (b : Byte) : Prop := ∀ t ∈ ts, t.isFullyConstant = true → t.constVal ≠ b

/-- Any two non-constant templates that match at a byte of `good` are one, or one is a super-pattern of the other. -/
def Chains (good : Byte → Prop) (ts : List Template) : Prop :=
  ∀ t ∈ ts, ∀ u ∈ ts, t.isFullyConstant = false → u.isFullyConstant = false →
    ∀ b, good b → t.test b = true → u.test b = true → t = u ∨ superPattern t u = true ∨ superPattern u t = true

section
variable {ts us : List Template}

theorem nodup_of_distinctPatterns (h : distinctPatterns ts = true) : (ts.map Template.pattern).Nodup := by
  induction ts with
  | nil => exact .nil
  | cons t ts ih =>
    rw [distinctPatterns, Bool.and_eq_true, List.all_eq_true] at h
    refine List.nodup_cons.2 ⟨fun hmem => ?_, ih h.2⟩
    obtain ⟨u, hu, heq⟩ := List.mem_map.1 hmem
    obtain ⟨hmask, hval⟩ := Prod.ext_iff.1 heq
    have hdistinct := h.1 u hu
    simp only [Template.pattern] at hmask hval
    simp [hmask, hval] at hdistinct

theorem related_of_pairwiseRelated (h : pairwiseRelated ts = true) : ∀ t ∈ ts, ∀ u ∈ ts,
    t = u ∨ superPattern t u = true ∨ superPattern u t = true := by
  induction ts with
  | nil => nofun
  | cons p ts ih =>
    simp only [pairwiseRelated, Bool.and_eq_true, List.all_eq_true, Bool.or_eq_true] at h
    obtain ⟨hp, hts⟩ := h
    exact List.forall_mem_cons.2 ⟨List.forall_mem_cons.2 ⟨.inl rfl, fun u hu => .inr (hp u hu)⟩,
      fun t ht => List.forall_mem_cons.2 ⟨.inr (hp t ht).symm, ih hts t ht⟩⟩

theorem mem_allBytes (b : Byte) : b ∈ allBytes :=
  List.mem_map.2 ⟨b.toNat, List.mem_range.2 b.isLt, BitVec.eq_of_toNat_eq (by simp)⟩

theorem chains_of_wellFormedTable (h : wellFormedTable ts = true) : Chains (NoKey ts) ts := by
  intro t ht u hu htc huc b hb htb hub
  have hchain := List.all_eq_true.1 (Bool.and_eq_true_iff.1 h).2 b (mem_allBytes b)
  have hkey : ts.any (fun t => t.isFullyConstant && t.constVal = b) = false := by simpa [NoKey] using hb
  rw [chainAt, hkey, Bool.false_or] at hchain
  exact related_of_pairwiseRelated hchain t (by simp [ht, htc, htb]) u (by simp [hu, huc, hub])

end

/-! ## Registration, one template after another -/

/-- What the index holds when the templates `done` are registered. -/
structure Registered (good : Byte → Prop) (done : List Template) (ix : PatternIndex) : Prop where
  perm : ix.templates.Perm done
  keys : ∀ e ∈ ix.constMap, e.1 = e.2.constVal ∧ e.2.isFullyConstant = true
  roots : ∀ u ∈ Node.templatesList ix.roots, u.isFullyConstant = false
  forest : Forest (superPattern · · = true) (Separate good) ix.roots

section
variable {good : Byte → Prop} {done us : List Template} {ix : PatternIndex} {t : Template}

theorem registered_empty (good : Byte → Prop) : Registered good [] .empty := ⟨.nil, nofun, nofun, .nil⟩

theorem Registered.mem_iff (h : Registered good done ix) {u : Template} :
    u ∈ done ↔ (∃ b, (b, u) ∈ ix.constMap) ∨ u ∈ Node.templatesList ix.roots := by
  rw [← h.perm.mem_iff, PatternIndex.templates, List.mem_append]
  simp

/-- A template whose pattern is new is registered. -/
theorem Registered.add (h : Registered good done ix) (hnodup : ((done ++ [t]).map Template.pattern).Nodup)
    (hchains : Chains good (done ++ [t])) :
    ∃ ix', ix.add t = some ix' ∧ Registered good (done ++ [t]) ix' := by
  have hnew : ∀ u ∈ done, u.pattern ≠ t.pattern := fun u hu heq => by
    rw [List.map_append, List.nodup_append] at hnodup
    exact hnodup.2.2 _ (List.mem_map_of_mem hu) _ (List.mem_singleton_self _) heq
  cases hc : t.isFullyConstant with
  | true =>
    have hfree : ¬ ix.constMap.any (fun e => e.1 = t.constVal) = true := fun hany => by
      obtain ⟨q, hq⟩ := PatternIndex.any_key_iff.1 hany
      obtain ⟨hval, hqc⟩ := h.keys _ hq
      refine hnew q (h.mem_iff.2 (.inl ⟨_, hq⟩)) (Prod.ext ?_ hval.symm)
      rw [Template.isFullyConstant, decide_eq_true_iff] at hqc hc
      exact hqc.trans hc.symm
    refine ⟨_, (PatternIndex.add_constant hc).trans (if_neg hfree), ?_,
      List.forall_mem_append.2 ⟨h.keys, List.forall_mem_singleton.2 ⟨rfl, hc⟩⟩, h.roots, h.forest⟩
    rw [PatternIndex.templates, List.map_append, List.append_assoc]
    refine (List.perm_append_comm.append_left _).trans ?_
    rw [← List.append_assoc]
    exact h.perm.append_right _
  | false =>
    have hin : ∀ u ∈ Node.templatesList ix.roots, u ∈ done := fun u hu => h.mem_iff.2 (.inr hu)
    have hfree : ¬ (Node.templatesList ix.roots).any
        (fun u => u.constMask = t.constMask && u.constVal = t.constVal) = true := fun hany => by
      obtain ⟨u, hu, hmask, hval⟩ := PatternIndex.any_pattern_iff.1 hany
      exact hnew u (hin u hu) (Prod.ext hmask hval)
    have hrel : RelatedTo good t (Node.templatesList ix.roots) := fun u hu b hb hub htb =>
      (hchains u (List.mem_append_left _ (hin u hu)) t List.mem_concat_self (h.roots u hu) hc b hb hub htb).resolve_left
        fun heq => hnew u (hin u hu) (heq ▸ rfl)
    have hdone : done.Nodup := (List.nodup_append.1 (List.Nodup.of_map _ hnodup)).1
    have hroots : (Node.templatesList ix.roots).Nodup := (List.nodup_append.1 (h.perm.nodup_iff.2 hdone)).2.1
    obtain ⟨hperm, hforest⟩ := Node.insert_perm_forest
      (List.nodup_cons.2 ⟨fun ht => hnew t (hin t ht) rfl, hroots⟩) hrel h.forest
    refine ⟨_, (PatternIndex.add_nonconstant hc).trans (if_neg hfree), ?_, h.keys, fun u hu => ?_, hforest⟩
    · exact (hperm.append_left _).trans (List.perm_middle.trans
        ((h.perm.cons t).trans (List.perm_append_singleton t done).symm))
    · exact (List.mem_cons.1 (hperm.mem_iff.1 hu)).elim (fun heq => heq ▸ hc) (h.roots u)

theorem Chains.mono {ts : List Template} (h : Chains good ts) (hsub : us ⊆ ts) : Chains good us :=
  fun t ht u hu => h t (hsub ht) u (hsub hu)

/-- A list of templates with new patterns is registered. -/
theorem Registered.addAll (h : Registered good done ix) (hnodup : ((done ++ us).map Template.pattern).Nodup)
    (hchains : Chains good (done ++ us)) :
    ∃ ix', us.foldlM PatternIndex.add ix = some ix' ∧ Registered good (done ++ us) ix' := by
  induction us generalizing done ix with
  | nil => exact ⟨ix, rfl, by simpa using h⟩
  | cons t us ih =>
    rw [List.append_cons] at hnodup hchains ⊢
    have hfirst : ((done ++ [t]).map Template.pattern).Nodup := by
      rw [List.map_append] at hnodup
      exact (List.nodup_append.1 hnodup).1
    obtain ⟨ix₁, hadd, h₁⟩ := h.add hfirst (hchains.mono (List.subset_append_left ..))
    obtain ⟨ix₂, hall, h₂⟩ := ih h₁ hnodup hchains
    exact ⟨ix₂, by rw [List.foldlM_cons, hadd]; exact hall, h₂⟩

end

/-! ## The index answers `Decode` -/

section
variable {ts : List Template} {ix : PatternIndex} {b : Byte} {t u : Template}

theorem constant_test_iff (h : t.isFullyConstant = true) : t.test b = true ↔ t.constVal = b := by
  rw [Template.isFullyConstant, decide_eq_true_iff] at h
  rw [Template.test, decide_eq_true_iff, h, eq_comm, show b &&& 0xFF#8 = b from BitVec.and_allOnes]

/-- A non-constant template that matches the key of a constant one is a super-pattern of it. -/
theorem superPattern_constant (ht : t.isFullyConstant = true) (htb : t.constVal = b) (hu : u.isFullyConstant = false)
    (hub : u.test b = true) : superPattern u t = true := by
  rw [Template.isFullyConstant, decide_eq_true_iff] at ht
  rw [Template.isFullyConstant, decide_eq_false_iff_not] at hu
  rw [Template.test, decide_eq_true_iff] at hub
  refine superPattern_iff.2 ⟨?_, fun heq => hu (heq.trans ht), by rw [htb, hub]⟩
  rw [ht]
  exact BitVec.and_allOnes

/-- The most specific template, by the constant map or by the walk. -/
theorem Registered.test_eq (h : Registered (NoKey ts) ts ix) (hnodup : (ts.map Template.pattern).Nodup) (b : Byte) :
    ix.test b = decodeTemplates ts b := by
  rw [PatternIndex.test, PatternIndex.constant]
  cases hfind : ix.constMap.find? (fun e => e.1 = b) with
  | some e =>
    obtain ⟨key, t⟩ := e
    have hmem := List.mem_of_find?_eq_some hfind
    obtain rfl : key = b := by simpa using List.find?_some hfind
    obtain ⟨hval, hc⟩ := h.keys _ hmem
    have ht := h.mem_iff.2 (.inl ⟨_, hmem⟩)
    refine (IsMostSpecific.decodeTemplates_eq ⟨ht, (constant_test_iff hc).2 hval.symm, fun u hu hub => ?_⟩).symm
    cases huc : u.isFullyConstant with
    | true =>
      refine .inl (List.inj_on_of_nodup_map hnodup hu ht (Prod.ext ?_ (((constant_test_iff huc).1 hub).trans hval)))
      rw [Template.isFullyConstant, decide_eq_true_iff] at huc hc
      exact huc.trans hc.symm
    | false => exact .inr (superPattern_constant hc hval.symm huc hub)
  | none =>
    have hkey : NoKey ts b := fun t ht hc hval => by
      rcases h.mem_iff.1 ht with ⟨key, hmem⟩ | hroot
      · exact List.find?_eq_none.1 hfind _ hmem (decide_eq_true (((h.keys _ hmem).1).trans hval))
      · exact Bool.false_ne_true ((h.roots t hroot).symm.trans hc)
    have hroot : ∀ u ∈ ts, u.test b = true → u ∈ Node.templatesList ix.roots := fun u hu hub =>
      (h.mem_iff.1 hu).resolve_left fun ⟨key, hmem⟩ =>
        hkey u hu (h.keys _ hmem).2 ((constant_test_iff (h.keys _ hmem).2).1 hub)
    change Node.walkList b ix.roots = _
    cases hwalk : Node.walkList b ix.roots with
    | none =>
      have hnone := Node.walkList_none h.forest hwalk
      exact (decodeTemplates_eq_none fun u hu => Bool.eq_false_iff.2 fun hub =>
        Bool.false_ne_true ((hnone u (hroot u hu hub)).symm.trans hub)).symm
    | some t =>
      obtain ⟨hmem, htest, hmost⟩ := Node.walkList_some h.forest hkey hwalk
      exact (IsMostSpecific.decodeTemplates_eq
        ⟨h.mem_iff.2 (.inr hmem), htest, fun u hu hub => hmost u (hroot u hu hub) hub⟩).symm

end

/-- Settles O60: registration keeps the forest in order, and a forest in order answers the most specific template. -/
theorem patternIndexComputesDecode : Obligations.PatternIndexComputesDecode := by
  unfold Obligations.PatternIndexComputesDecode
  intro ts us hwf hperm
  have hnodup := nodup_of_distinctPatterns (Bool.and_eq_true_iff.1 hwf).1
  obtain ⟨ix, hfold, hreg⟩ := (registered_empty (NoKey ts)).addAll ((hperm.map _).nodup_iff.2 hnodup)
    ((chains_of_wellFormedTable hwf).mono hperm.subset)
  rw [List.nil_append] at hreg
  have hreg' : Registered (NoKey ts) ts ix := ⟨hreg.perm.trans hperm, hreg.keys, hreg.roots, hreg.forest⟩
  exact ⟨ix, hfold, hreg'.perm, hreg'.test_eq hnodup⟩

end Sys2Proof.Machine

/-! # Proofs: the canonical interpreter (30_encoding.md R76, R77; 41_engine.md R120, R121)

The canonical tables are well-formed, so their registration goes through and the index answers the most specific row. -/

namespace Sys2Proof.Machine

/-! ## Rows and their templates -/

/-- The template of a text that parses. -/
def textTemplate (text : String) : Template :=
  match parseTemplate text with
  | .ok t => t
  | .error _ => ⟨0, 0, text, []⟩

/-- The template of a row's text. -/
def rowTemplate (r : Row) : Template := textTemplate r.text

/-- The text of a row of R76 or R77 parses, to the mask and the value of the row. -/
theorem parsed_rows (t : TableIx) :
    ∀ r ∈ table t, (parseTemplate r.text).toOption.map Template.pattern = some (r.mask, r.val) := by
  cases t <;> decide +kernel

theorem parseTemplate_row {t : TableIx} {r : Row} (hr : r ∈ table t) :
    parseTemplate r.text = .ok (rowTemplate r) ∧ (rowTemplate r).constMask = r.mask ∧ (rowTemplate r).constVal = r.val := by
  have hparsed := parsed_rows t r hr
  rw [rowTemplate, textTemplate]
  cases hparse : parseTemplate r.text with
  | ok p =>
    rw [hparse] at hparsed
    exact ⟨rfl, Prod.ext_iff.1 (Option.some.inj hparsed)⟩
  | error e =>
    rw [hparse] at hparsed
    cases hparsed

theorem wellFormedTable_canonical (t : TableIx) : wellFormedTable ((table t).map rowTemplate) = true := by
  cases t <;> decide +kernel

theorem nodup_texts (t : TableIx) : ((table t).map Row.text).Nodup := by
  have hpatterns := nodup_of_distinctPatterns (Bool.and_eq_true_iff.1 (wellFormedTable_canonical t)).1
  have htemplates : (((table t).map Row.text).map textTemplate).Nodup := by
    rw [List.map_map]
    exact hpatterns.of_map
  exact htemplates.of_map

theorem rowTest_eq (r : Row) {p : Template} (hmask : p.constMask = r.mask) (hval : p.constVal = r.val) (b : Byte) :
    p.test b = r.test b := by
  rw [Row.test, Template.test, hmask, hval, Bool.eq_iff_iff, decide_eq_true_iff, Nat.beq_eq, ← BitVec.toNat_and,
    BitVec.toNat_inj]

/-- Both decoders choose alike. -/
theorem decodeTemplates_map {rs : List Row} {f : Row → Template}
    (h : ∀ r ∈ rs, (f r).constMask = r.mask ∧ (f r).constVal = r.val) (b : Byte) :
    decodeTemplates (rs.map f) b = (mostSpecific rs b).map f := by
  induction rs with
  | nil => rfl
  | cons r rs ih =>
    obtain ⟨⟨hmask, hval⟩, hrs⟩ := List.forall_mem_cons.1 h
    rw [List.map_cons, decodeTemplates, mostSpecific, rowTest_eq r hmask hval, ih hrs]
    split_ifs
    · cases hrest : mostSpecific rs b with
      | none => rfl
      | some q =>
        obtain ⟨hq, -⟩ := (decodeIsMostSpecific rs b).1 q hrest
        simp only [Option.map_some, hmask, (hrs q hq).1]
        split_ifs <;> rfl
    · rfl

/-! ## The check of W2 does not depend on the order -/

theorem pairwiseRelated_iff {ts : List Template} : pairwiseRelated ts = true ↔
    ts.Pairwise fun t u => superPattern t u = true ∨ superPattern u t = true := by
  induction ts with
  | nil => exact ⟨fun _ => .nil, fun _ => rfl⟩
  | cons t ts ih => simp [pairwiseRelated, ih]

theorem chainAt_perm {ts us : List Template} (h : ts.Perm us) (b : Byte) : chainAt ts b = chainAt us b := by
  have hpairs := (h.filter fun t => !t.isFullyConstant && t.test b).pairwise_iff
    (R := fun t u => superPattern t u = true ∨ superPattern u t = true) Or.symm
  rw [chainAt, chainAt, h.any_eq, Bool.eq_iff_iff.2 (pairwiseRelated_iff.trans (hpairs.trans pairwiseRelated_iff.symm))]

theorem ambiguousTemplate_of_perm {ts us : List Template} (hwf : wellFormedTable ts = true) (h : us.Perm ts) :
    ambiguousTemplate us = none := by
  rw [ambiguousTemplate_eq_none, ← (Bool.and_eq_true_iff.1 hwf).2]
  exact congrArg allBytes.all (funext (chainAt_perm h))

/-! ## The registrations of one table -/

/-- The map from text to handler of a table. -/
def Interpreter.dispatchMap (ip : Interpreter) : TableIx → List (String × Handler)
  | .t0 => ip.dispatch0
  | .t1 => ip.dispatch1

/-- The interpreter with the two parts of one table replaced. -/
def Interpreter.withTable (ip : Interpreter) (ix : PatternIndex) (d : List (String × Handler)) : TableIx → Interpreter
  | .t0 => { ip with index0 := ix, dispatch0 := d }
  | .t1 => { ip with index1 := ix, dispatch1 := d }

theorem Interpreter.handler_eq (ip : Interpreter) (t : TableIx) (text : String) :
    ip.handler t text = (ip.dispatchMap t).lookup text := by
  cases t <;> rfl

/-- The text and the handler of a row. -/
def rowBinding (t : TableIx) (r : Row) : String × Handler := (canonicalRegistration t r).2

theorem addAll_cons_of_ok {ip ip' : Interpreter} {t : TableIx} {text : String} {h : Handler} {rs : List Registration}
    (hok : ip.addInstruction text h t = .ok ip') :
    Interpreter.addAll ((t, text, h) :: rs) ip = Interpreter.addAll rs ip' := by
  rw [Interpreter.addAll, hok]

/-- The rows of a table register one after another, as their templates do. -/
theorem addAll_rows {t : TableIx} {rs : List Row} {ip : Interpreter} {ix : PatternIndex} (rest : List Registration)
    (hparse : ∀ r ∈ rs, parseTemplate r.text = .ok (rowTemplate r))
    (hfold : (rs.map rowTemplate).foldlM PatternIndex.add (ip.index t) = some ix) :
    Interpreter.addAll (rs.map (canonicalRegistration t) ++ rest) ip =
      Interpreter.addAll rest (ip.withTable ix (ip.dispatchMap t ++ rs.map (rowBinding t)) t) := by
  induction rs generalizing ip with
  | nil =>
    cases hfold
    cases t <;> simp [Interpreter.withTable, Interpreter.dispatchMap, Interpreter.index]
  | cons r rs ih =>
    obtain ⟨hr, hrs⟩ := List.forall_mem_cons.1 hparse
    rw [List.map_cons, List.foldlM_cons] at hfold
    obtain ⟨ix₁, hadd, hrest⟩ := Option.bind_eq_some_iff.1 hfold
    have hstep : ip.addInstruction r.text (rowBinding t r).2 t = .ok (ip.put t ix₁ r.text (rowBinding t r).2) :=
      addInstruction_ok.2 ⟨_, _, hr, hadd, rfl⟩
    have hfold₁ : (rs.map rowTemplate).foldlM PatternIndex.add
        ((ip.put t ix₁ r.text (rowBinding t r).2).index t) = some ix := by cases t <;> exact hrest
    refine (addAll_cons_of_ok hstep).trans ((ih hrs hfold₁).trans ?_)
    congr 1
    cases t <;> simp [Interpreter.put, Interpreter.withTable, Interpreter.dispatchMap, rowBinding, canonicalRegistration]

/-- The rows of two tables, from nothing. -/
theorem addAll_two_tables {rs0 rs1 : List Row} {ix0 ix1 : PatternIndex}
    (hparse0 : ∀ r ∈ rs0, parseTemplate r.text = .ok (rowTemplate r))
    (hparse1 : ∀ r ∈ rs1, parseTemplate r.text = .ok (rowTemplate r))
    (hfold0 : (rs0.map rowTemplate).foldlM PatternIndex.add .empty = some ix0)
    (hfold1 : (rs1.map rowTemplate).foldlM PatternIndex.add .empty = some ix1) :
    Interpreter.addAll (rs0.map (canonicalRegistration .t0) ++ rs1.map (canonicalRegistration .t1)) .empty =
      .ok ⟨ix0, ix1, rs0.map (rowBinding .t0), rs1.map (rowBinding .t1)⟩ := by
  rw [addAll_rows (t := .t0) (ip := .empty) _ hparse0 hfold0, ← List.append_nil (rs1.map (canonicalRegistration .t1))]
  exact addAll_rows [] hparse1 hfold1

/-- The canonical registration builds an interpreter with the index and the map of each table. -/
theorem exists_build_canonical : ∃ ip, Interpreter.build canonicalRegistrations = .ok ip ∧ ∀ t,
    (∀ b, (ip.index t).test b = (mostSpecific (table t) b).map rowTemplate) ∧
      ip.dispatchMap t = (table t).map (rowBinding t) := by
  have hindex : ∀ t, ∃ ix, ((table t).map rowTemplate).foldlM PatternIndex.add .empty = some ix ∧
      ambiguousTemplate ix.templates = none ∧ ∀ b, ix.test b = (mostSpecific (table t) b).map rowTemplate := fun t => by
    obtain ⟨ix, hfold, hperm, htest⟩ := patternIndexComputesDecode _ _ (wellFormedTable_canonical t) (.refl _)
    exact ⟨ix, hfold, ambiguousTemplate_of_perm (wellFormedTable_canonical t) hperm, fun b =>
      (htest b).trans (decodeTemplates_map (fun r hr => (parseTemplate_row hr).2) b)⟩
  obtain ⟨ix0, hfold0, hamb0, htest0⟩ := hindex .t0
  obtain ⟨ix1, hfold1, hamb1, htest1⟩ := hindex .t1
  have hparse : ∀ t, ∀ r ∈ table t, parseTemplate r.text = .ok (rowTemplate r) := fun t r hr => (parseTemplate_row hr).1
  have hall : Interpreter.addAll canonicalRegistrations .empty =
      .ok ⟨ix0, ix1, table0.map (rowBinding .t0), table1.map (rowBinding .t1)⟩ :=
    addAll_two_tables (hparse .t0) (hparse .t1) hfold0 hfold1
  refine ⟨_, build_ok.2 ⟨hall, hamb0, hamb1⟩, fun t => ?_⟩
  cases t
  · exact ⟨htest0, rfl⟩
  · exact ⟨htest1, rfl⟩

/-! ## Dispatch -/

/-- A text bound once has its own row's handler. -/
theorem lookup_rowBinding {rs : List Row} {t : TableIx} (hnodup : (rs.map Row.text).Nodup) {r : Row} (hr : r ∈ rs) :
    (rs.map (rowBinding t)).lookup r.text = some (rowBinding t r).2 := by
  induction rs with
  | nil => cases hr
  | cons p rs ih =>
    obtain ⟨hnew, hnodup⟩ := List.nodup_cons.1 hnodup
    rcases List.mem_cons.1 hr with rfl | hin
    · exact List.lookup_cons_self
    · have hne : (r.text == p.text) = false := beq_false_of_ne fun heq => hnew (heq ▸ List.mem_map_of_mem hin)
      refine Eq.trans ?_ (ih hnodup hin)
      change List.lookup r.text ((p.text, _) :: _) = _
      rw [List.lookup_cons, hne]

/-- A form that is a stub. -/
def isStub : Form → Bool
  | .op i => Spec.stubbed i
  | _ => false

theorem isStub_of_unimplemented : ∀ r ∈ table0, unimplementedTexts.contains r.text = true →
    ∀ b ∈ allBytes, isStub (r.build (fieldsOf r.text b)) = true := by
  decide +kernel

/-- A stub's form, decoded from a byte, latches the fault with that byte. -/
theorem runForm_of_isStub {b : Byte} {f : Form} (hdec : decodeOpcode .t0 b = some f) (hf : isStub f = true) (s : State) :
    runForm f s = raise (.unimplementedOpcode .t0 b) s := by
  obtain ⟨f', hdec', henc⟩ := decodeOpcode_encodes .t0 b
  obtain rfl : f' = f := Option.some.inj (hdec'.symm.trans hdec)
  match f', hf, henc with
  | .op i, hf, henc =>
    obtain ⟨-, henc⟩ := henc 0 0
    exact (exec_stubbed hf s).trans (by rw [show encode i = [b] from henc]; rfl)

/-- Settles O59: the index answers the template of the row that the machine decodes with, and its text is bound to that
row's handler. -/
theorem canonicalInterpreter : Obligations.CanonicalInterpreter := by
  unfold Obligations.CanonicalInterpreter
  obtain ⟨ip, hbuild, htables⟩ := exists_build_canonical
  refine ⟨ip, hbuild, fun t op s => ?_⟩
  obtain ⟨htest, hdispatch⟩ := htables t
  rw [Interpreter.execute, execute, htest, decodeOpcode]
  cases hrow : mostSpecific (table t) op with
  | none => rfl
  | some r =>
    obtain ⟨hr, -⟩ := (decodeIsMostSpecific (table t) op).1 r hrow
    have hsource : (rowTemplate r).sourceText = r.text := (parseTemplate_ok (parseTemplate_row hr).1).2.1
    have hfields : (rowTemplate r).field op = fieldsOf r.text op := funext fun ch => by
      rw [fieldsOf, (parseTemplate_row hr).1]
    simp only [Option.map_some, hsource, ip.handler_eq, hdispatch, lookup_rowBinding (nodup_texts t) hr, rowBinding,
      canonicalRegistration, hfields]
    by_cases hstub : (t = .t0 && unimplementedTexts.contains r.text) = true
    · rw [if_pos hstub]
      obtain ⟨ht, htext⟩ := Bool.and_eq_true_iff.1 hstub
      obtain rfl : t = .t0 := of_decide_eq_true ht
      exact (runForm_of_isStub (by rw [decodeOpcode, hrow]) (isStub_of_unimplemented r hr htext op (mem_allBytes op)) s).symm
    · rw [if_neg hstub]

end Sys2Proof.Machine
